-- ==== Sys2Proof/Word.lean ====
section
/-! DEFINITION. The two word types of the core: the 8-bit byte that the bus moves in one cycle and the
16-bit address or register pair (spec 00_scope.md R6). Their helpers (pairing, sign extension) stand in
Machine/Bits.lean. -/

namespace Sys2Proof

/-- One byte: a general register, F, or what one bus cycle moves (R6, R40). -/
abbrev Byte := BitVec 8

/-- One 16-bit word: SP, PC, a register pair or an address (R6, R41, R44, R45). -/
abbrev Word := BitVec 16

end Sys2Proof
end

