-- ==== Sys2Proof/Machine/Bits.lean ====
section
/-! DEFINITION. The bit-field, sign-extension and byte-order helpers that the decoder and the machine
share (00_scope.md R8, R9, R12; 10_state.md R41; 30_encoding.md R151, R159, R160). -/

namespace Sys2Proof.Machine

/-- `hi:lo` as a 16-bit value: `hi * 256 + lo` (R8, R41). -/
def wordOf (hi lo : Byte) : Word := hi ++ lo

/-- `v[15:8]` (R8). -/
def hiByte (v : Word) : Byte := v.extractLsb' 8 8

/-- `v[7:0]` (R8). -/
def loByte (v : Word) : Byte := v.extractLsb' 0 8

/-- `sext_16(e8)`: the signed offset of JR, ADD SP,e8 and LD HL,SP+e8 (R9, R160). -/
def sext16 (e : Byte) : Word := e.signExtend 16

/-- `0xFF00 + zext_16(o)`: the top-page address of LDH and LD (C) (R161). -/
def highPage (o : Byte) : Word := 0xFF00 + o.setWidth 16

/-- The high nibble `op[7:4]`: the row of an opcode map (R163). -/
def hiNibble (op : Byte) : BitVec 4 := op.extractLsb' 4 4

/-- The low nibble `op[3:0]`: the column of an opcode map (R163). -/
def loNibble (op : Byte) : BitVec 4 := op.extractLsb' 0 4

/-- Column `k` of a row of sixteen entries. -/
def pick16 {α : Type} (k : BitVec 4) (x0 x1 x2 x3 x4 x5 x6 x7 x8 x9 xA xB xC xD xE xF : α) : α :=
  match k.toNat with
  | 0 => x0
  | 1 => x1
  | 2 => x2
  | 3 => x3
  | 4 => x4
  | 5 => x5
  | 6 => x6
  | 7 => x7
  | 8 => x8
  | 9 => x9
  | 10 => xA
  | 11 => xB
  | 12 => xC
  | 13 => xD
  | 14 => xE
  | _ => xF

end Sys2Proof.Machine
end

