-- ==== Sys2Proof/Config.lean ====
section
/-! DEFINITION. The named parameters of the core (00_scope.md R3, R6, R7): the hardware revision, the
boot choice with its register draw, and the fixed numbers of the machine. The parameters `Bus` and
`Tick` of R7 are plain data in State (Machine/State.lean, log entry 1): nothing here is chosen by an
opaque constant, and nothing here is a value the spec leaves open. -/

namespace Sys2Proof

/-- `MODEL` (R3, R7, 92 D32): the hardware revision. It decides only KEY1, STOP and the post-boot values. -/
inductive Model where
  | dmg
  | cgb
deriving DecidableEq, Repr

/-- `BootRegs` (R7, R63, 93 U1): the draw of register values at a reset that runs a boot ROM. It is an
argument of reset, so no statement can rest on one value of it. -/
structure BootRegs where
  a : Byte
  b : Byte
  c : Byte
  d : Byte
  e : Byte
  h : Byte
  l : Byte
  sp : Word
  /-- F[7:4]; F[3:0] is 0 (R63). -/
  flags : BitVec 4
deriving DecidableEq, Repr

/-- `BOOT_ROM` (R3, R7) with what goes with each choice. -/
inductive Boot where
  /-- `BOOT_ROM = true`: execution starts in the boot ROM at 0x0000, the registers are a draw (R63). -/
  | bootRom (draw : BootRegs)
  /-- `BOOT_ROM = false`: the post-boot state of R61 (DMG) or R62 (CGB with a CGB-mode cartridge). -/
  | skipped
  /-- `BOOT_ROM = false` on a CGB with a DMG-only cartridge: the register values are the parameter
  `BootRegs` (R62, 93 U9). On a DMG this is `skipped`. -/
  | skippedCompat (draw : BootRegs)
deriving DecidableEq, Repr

namespace Config

/-- T-cycles of one M-cycle (R6). -/
def tCyclesPerMCycle : Nat := 4

/-- What a read gives where no live resource backs the address (R16 "open bus", R105). -/
def openBus : Byte := 0xFF

/-- The entry point after a skipped boot (R61, R62, R107). -/
def entryPoint : Word := 0x0100

/-- The entry point of the boot ROM (R63, R107). -/
def bootRomEntry : Word := 0x0000

/-- The vector of interrupt 0; source k's vector lies 8 × k above it (R107, R521). -/
def interruptVectorBase : Word := 0x0040

/-- `CyclesPerFrame`: 154 lines of 456 T-cycles (R542). -/
def cyclesPerFrame : Nat := 154 * 456

end Config

end Sys2Proof
end

