-- ==== Sys2Proof/Syntax.lean ====
section
/-! DEFINITION. The instruction set as syntax: `Instr` has one constructor per row of
spec/opcode_table.json (512 rows: the 256 positions of the primary map of R163, the CB prefix and the
eleven unassigned positions of R164 among them, and the 256 positions of the CB map of R157). A
constructor carries only the immediate the row has (R158 to R161); register, condition, bit and
target fields are part of the constructor's name. The rows with an immediate come first (Lean's compiler wants
them so); otherwise the order is the table's. The second half gives the operand types of the
fields and, for each family, the function from a family's fields to its constructor. -/

namespace Sys2Proof

/-- The 8-bit register field of R152 without value 6, which names memory. -/
inductive Reg8 where
  | b | c | d | e | h | l | a
deriving DecidableEq, Repr

/-- The register-pair field of R153 (SP variant). -/
inductive Pair where
  | bc | de | hl | sp
deriving DecidableEq, Repr

/-- The register-pair field of R154 (AF variant), of PUSH and POP. -/
inductive StackPair where
  | bc | de | hl | af
deriving DecidableEq, Repr

/-- The condition field of R155. -/
inductive Cond where
  | nz | z | nc | c
deriving DecidableEq, Repr

/-- The ALU operation field of R156. -/
inductive AluOp where
  | add | adc | sub | sbc | and | xor | or | cp
deriving DecidableEq, Repr

/-- The rotate/shift operation field of R157 (quadrant 0 of the CB map). -/
inductive ShiftOp where
  | rlc | rrc | rl | rr | sla | sra | swap | srl
deriving DecidableEq, Repr

/-- The instructions: one constructor per row of spec/opcode_table.json. -/
inductive Instr where
  -- The rows with an immediate (42 of them), in table order.
  /-- 0x01: LD BC,d16, R250 -/
  | ldBcImm (d : Word)
  /-- 0x06: LD B,d8, R202 -/
  | ldBImm (d : Byte)
  /-- 0x08: LD (a16),SP, R251 -/
  | ldAtAddrSp (a : Word)
  /-- 0x0E: LD C,d8, R202 -/
  | ldCImm (d : Byte)
  /-- 0x11: LD DE,d16, R250 -/
  | ldDeImm (d : Word)
  /-- 0x16: LD D,d8, R202 -/
  | ldDImm (d : Byte)
  /-- 0x18: JR e8, R444 -/
  | jr (e : Byte)
  /-- 0x1E: LD E,d8, R202 -/
  | ldEImm (d : Byte)
  /-- 0x20: JR NZ,e8, R445 -/
  | jrNz (e : Byte)
  /-- 0x21: LD HL,d16, R250 -/
  | ldHlImm (d : Word)
  /-- 0x26: LD H,d8, R202 -/
  | ldHImm (d : Byte)
  /-- 0x28: JR Z,e8, R445 -/
  | jrZ (e : Byte)
  /-- 0x2E: LD L,d8, R202 -/
  | ldLImm (d : Byte)
  /-- 0x30: JR NC,e8, R445 -/
  | jrNc (e : Byte)
  /-- 0x31: LD SP,d16, R250 -/
  | ldSpImm (d : Word)
  /-- 0x36: LD (HL),d8, R205 -/
  | ldAtHlImm (d : Byte)
  /-- 0x38: JR C,e8, R445 -/
  | jrC (e : Byte)
  /-- 0x3E: LD A,d8, R202 -/
  | ldAImm (d : Byte)
  /-- 0xC2: JP NZ,a16, R442 -/
  | jpNz (a : Word)
  /-- 0xC3: JP a16, R441 -/
  | jp (a : Word)
  /-- 0xC4: CALL NZ,a16, R447 -/
  | callNz (a : Word)
  /-- 0xC6: ADD A,d8, R303 -/
  | addAImm (d : Byte)
  /-- 0xCA: JP Z,a16, R442 -/
  | jpZ (a : Word)
  /-- 0xCC: CALL Z,a16, R447 -/
  | callZ (a : Word)
  /-- 0xCD: CALL a16, R446 -/
  | call (a : Word)
  /-- 0xCE: ADC A,d8, R306 -/
  | adcAImm (d : Byte)
  /-- 0xD2: JP NC,a16, R442 -/
  | jpNc (a : Word)
  /-- 0xD4: CALL NC,a16, R447 -/
  | callNc (a : Word)
  /-- 0xD6: SUB d8, R309 -/
  | subImm (d : Byte)
  /-- 0xDA: JP C,a16, R442 -/
  | jpC (a : Word)
  /-- 0xDC: CALL C,a16, R447 -/
  | callC (a : Word)
  /-- 0xDE: SBC A,d8, R312 -/
  | sbcAImm (d : Byte)
  /-- 0xE0: LDH (a8),A, R213 -/
  | ldhAtOffA (o : Byte)
  /-- 0xE6: AND d8, R315 -/
  | andImm (d : Byte)
  /-- 0xE8: ADD SP,e8, R353 -/
  | addSpImm (e : Byte)
  /-- 0xEA: LD (a16),A, R211 -/
  | ldAtAddrA (a : Word)
  /-- 0xEE: XOR d8, R318 -/
  | xorImm (d : Byte)
  /-- 0xF0: LDH A,(a8), R212 -/
  | ldhAAtOff (o : Byte)
  /-- 0xF6: OR d8, R321 -/
  | orImm (d : Byte)
  /-- 0xF8: LD HL,SP+e8, R253 -/
  | ldHlSpImm (e : Byte)
  /-- 0xFA: LD A,(a16), R210 -/
  | ldAAtAddr (a : Word)
  /-- 0xFE: CP d8, R324 -/
  | cpImm (d : Byte)
  -- The rows without an immediate, in table order.
  /-- 0x00: NOP, R480 -/
  | nop
  /-- 0x02: LD (BC),A, R208 -/
  | ldAtBcA
  /-- 0x03: INC BC, R351 -/
  | incBc
  /-- 0x04: INC B, R325 -/
  | incB
  /-- 0x05: DEC B, R327 -/
  | decB
  /-- 0x07: RLCA, R381 -/
  | rlca
  /-- 0x09: ADD HL,BC, R350 -/
  | addHlBc
  /-- 0x0A: LD A,(BC), R206 -/
  | ldAAtBc
  /-- 0x0B: DEC BC, R352 -/
  | decBc
  /-- 0x0C: INC C, R325 -/
  | incC
  /-- 0x0D: DEC C, R327 -/
  | decC
  /-- 0x0F: RRCA, R382 -/
  | rrca
  /-- 0x10: STOP, R488 -/
  | stop
  /-- 0x12: LD (DE),A, R209 -/
  | ldAtDeA
  /-- 0x13: INC DE, R351 -/
  | incDe
  /-- 0x14: INC D, R325 -/
  | incD
  /-- 0x15: DEC D, R327 -/
  | decD
  /-- 0x17: RLA, R383 -/
  | rla
  /-- 0x19: ADD HL,DE, R350 -/
  | addHlDe
  /-- 0x1A: LD A,(DE), R207 -/
  | ldAAtDe
  /-- 0x1B: DEC DE, R352 -/
  | decDe
  /-- 0x1C: INC E, R325 -/
  | incE
  /-- 0x1D: DEC E, R327 -/
  | decE
  /-- 0x1F: RRA, R384 -/
  | rra
  /-- 0x22: LD (HL+),A, R216 -/
  | ldAtHlIncA
  /-- 0x23: INC HL, R351 -/
  | incHl
  /-- 0x24: INC H, R325 -/
  | incH
  /-- 0x25: DEC H, R327 -/
  | decH
  /-- 0x27: DAA, R481 -/
  | daa
  /-- 0x29: ADD HL,HL, R350 -/
  | addHlHl
  /-- 0x2A: LD A,(HL+), R218 -/
  | ldAAtHlInc
  /-- 0x2B: DEC HL, R352 -/
  | decHl
  /-- 0x2C: INC L, R325 -/
  | incL
  /-- 0x2D: DEC L, R327 -/
  | decL
  /-- 0x2F: CPL, R482 -/
  | cpl
  /-- 0x32: LD (HL-),A, R217 -/
  | ldAtHlDecA
  /-- 0x33: INC SP, R351 -/
  | incSp
  /-- 0x34: INC (HL), R326 -/
  | incAtHl
  /-- 0x35: DEC (HL), R328 -/
  | decAtHl
  /-- 0x37: SCF, R483 -/
  | scf
  /-- 0x39: ADD HL,SP, R350 -/
  | addHlSp
  /-- 0x3A: LD A,(HL-), R219 -/
  | ldAAtHlDec
  /-- 0x3B: DEC SP, R352 -/
  | decSp
  /-- 0x3C: INC A, R325 -/
  | incA
  /-- 0x3D: DEC A, R327 -/
  | decA
  /-- 0x3F: CCF, R484 -/
  | ccf
  /-- 0x40: LD B,B, R201 -/
  | ldBB
  /-- 0x41: LD B,C, R201 -/
  | ldBC
  /-- 0x42: LD B,D, R201 -/
  | ldBD
  /-- 0x43: LD B,E, R201 -/
  | ldBE
  /-- 0x44: LD B,H, R201 -/
  | ldBH
  /-- 0x45: LD B,L, R201 -/
  | ldBL
  /-- 0x46: LD B,(HL), R203 -/
  | ldBAtHl
  /-- 0x47: LD B,A, R201 -/
  | ldBA
  /-- 0x48: LD C,B, R201 -/
  | ldCB
  /-- 0x49: LD C,C, R201 -/
  | ldCC
  /-- 0x4A: LD C,D, R201 -/
  | ldCD
  /-- 0x4B: LD C,E, R201 -/
  | ldCE
  /-- 0x4C: LD C,H, R201 -/
  | ldCH
  /-- 0x4D: LD C,L, R201 -/
  | ldCL
  /-- 0x4E: LD C,(HL), R203 -/
  | ldCAtHl
  /-- 0x4F: LD C,A, R201 -/
  | ldCA
  /-- 0x50: LD D,B, R201 -/
  | ldDB
  /-- 0x51: LD D,C, R201 -/
  | ldDC
  /-- 0x52: LD D,D, R201 -/
  | ldDD
  /-- 0x53: LD D,E, R201 -/
  | ldDE
  /-- 0x54: LD D,H, R201 -/
  | ldDH
  /-- 0x55: LD D,L, R201 -/
  | ldDL
  /-- 0x56: LD D,(HL), R203 -/
  | ldDAtHl
  /-- 0x57: LD D,A, R201 -/
  | ldDA
  /-- 0x58: LD E,B, R201 -/
  | ldEB
  /-- 0x59: LD E,C, R201 -/
  | ldEC
  /-- 0x5A: LD E,D, R201 -/
  | ldED
  /-- 0x5B: LD E,E, R201 -/
  | ldEE
  /-- 0x5C: LD E,H, R201 -/
  | ldEH
  /-- 0x5D: LD E,L, R201 -/
  | ldEL
  /-- 0x5E: LD E,(HL), R203 -/
  | ldEAtHl
  /-- 0x5F: LD E,A, R201 -/
  | ldEA
  /-- 0x60: LD H,B, R201 -/
  | ldHB
  /-- 0x61: LD H,C, R201 -/
  | ldHC
  /-- 0x62: LD H,D, R201 -/
  | ldHD
  /-- 0x63: LD H,E, R201 -/
  | ldHE
  /-- 0x64: LD H,H, R201 -/
  | ldHH
  /-- 0x65: LD H,L, R201 -/
  | ldHL
  /-- 0x66: LD H,(HL), R203 -/
  | ldHAtHl
  /-- 0x67: LD H,A, R201 -/
  | ldHA
  /-- 0x68: LD L,B, R201 -/
  | ldLB
  /-- 0x69: LD L,C, R201 -/
  | ldLC
  /-- 0x6A: LD L,D, R201 -/
  | ldLD
  /-- 0x6B: LD L,E, R201 -/
  | ldLE
  /-- 0x6C: LD L,H, R201 -/
  | ldLH
  /-- 0x6D: LD L,L, R201 -/
  | ldLL
  /-- 0x6E: LD L,(HL), R203 -/
  | ldLAtHl
  /-- 0x6F: LD L,A, R201 -/
  | ldLA
  /-- 0x70: LD (HL),B, R204 -/
  | ldAtHlB
  /-- 0x71: LD (HL),C, R204 -/
  | ldAtHlC
  /-- 0x72: LD (HL),D, R204 -/
  | ldAtHlD
  /-- 0x73: LD (HL),E, R204 -/
  | ldAtHlE
  /-- 0x74: LD (HL),H, R204 -/
  | ldAtHlH
  /-- 0x75: LD (HL),L, R204 -/
  | ldAtHlL
  /-- 0x76: HALT, R487 -/
  | halt
  /-- 0x77: LD (HL),A, R204 -/
  | ldAtHlA
  /-- 0x78: LD A,B, R201 -/
  | ldAB
  /-- 0x79: LD A,C, R201 -/
  | ldAC
  /-- 0x7A: LD A,D, R201 -/
  | ldAD
  /-- 0x7B: LD A,E, R201 -/
  | ldAE
  /-- 0x7C: LD A,H, R201 -/
  | ldAH
  /-- 0x7D: LD A,L, R201 -/
  | ldAL
  /-- 0x7E: LD A,(HL), R203 -/
  | ldAAtHl
  /-- 0x7F: LD A,A, R201 -/
  | ldAA
  /-- 0x80: ADD A,B, R301 -/
  | addAB
  /-- 0x81: ADD A,C, R301 -/
  | addAC
  /-- 0x82: ADD A,D, R301 -/
  | addAD
  /-- 0x83: ADD A,E, R301 -/
  | addAE
  /-- 0x84: ADD A,H, R301 -/
  | addAH
  /-- 0x85: ADD A,L, R301 -/
  | addAL
  /-- 0x86: ADD A,(HL), R302 -/
  | addAAtHl
  /-- 0x87: ADD A,A, R301 -/
  | addAA
  /-- 0x88: ADC A,B, R304 -/
  | adcAB
  /-- 0x89: ADC A,C, R304 -/
  | adcAC
  /-- 0x8A: ADC A,D, R304 -/
  | adcAD
  /-- 0x8B: ADC A,E, R304 -/
  | adcAE
  /-- 0x8C: ADC A,H, R304 -/
  | adcAH
  /-- 0x8D: ADC A,L, R304 -/
  | adcAL
  /-- 0x8E: ADC A,(HL), R305 -/
  | adcAAtHl
  /-- 0x8F: ADC A,A, R304 -/
  | adcAA
  /-- 0x90: SUB B, R307 -/
  | subB
  /-- 0x91: SUB C, R307 -/
  | subC
  /-- 0x92: SUB D, R307 -/
  | subD
  /-- 0x93: SUB E, R307 -/
  | subE
  /-- 0x94: SUB H, R307 -/
  | subH
  /-- 0x95: SUB L, R307 -/
  | subL
  /-- 0x96: SUB (HL), R308 -/
  | subAtHl
  /-- 0x97: SUB A, R307 -/
  | subA
  /-- 0x98: SBC A,B, R310 -/
  | sbcAB
  /-- 0x99: SBC A,C, R310 -/
  | sbcAC
  /-- 0x9A: SBC A,D, R310 -/
  | sbcAD
  /-- 0x9B: SBC A,E, R310 -/
  | sbcAE
  /-- 0x9C: SBC A,H, R310 -/
  | sbcAH
  /-- 0x9D: SBC A,L, R310 -/
  | sbcAL
  /-- 0x9E: SBC A,(HL), R311 -/
  | sbcAAtHl
  /-- 0x9F: SBC A,A, R310 -/
  | sbcAA
  /-- 0xA0: AND B, R313 -/
  | andB
  /-- 0xA1: AND C, R313 -/
  | andC
  /-- 0xA2: AND D, R313 -/
  | andD
  /-- 0xA3: AND E, R313 -/
  | andE
  /-- 0xA4: AND H, R313 -/
  | andH
  /-- 0xA5: AND L, R313 -/
  | andL
  /-- 0xA6: AND (HL), R314 -/
  | andAtHl
  /-- 0xA7: AND A, R313 -/
  | andA
  /-- 0xA8: XOR B, R316 -/
  | xorB
  /-- 0xA9: XOR C, R316 -/
  | xorC
  /-- 0xAA: XOR D, R316 -/
  | xorD
  /-- 0xAB: XOR E, R316 -/
  | xorE
  /-- 0xAC: XOR H, R316 -/
  | xorH
  /-- 0xAD: XOR L, R316 -/
  | xorL
  /-- 0xAE: XOR (HL), R317 -/
  | xorAtHl
  /-- 0xAF: XOR A, R316 -/
  | xorA
  /-- 0xB0: OR B, R319 -/
  | orB
  /-- 0xB1: OR C, R319 -/
  | orC
  /-- 0xB2: OR D, R319 -/
  | orD
  /-- 0xB3: OR E, R319 -/
  | orE
  /-- 0xB4: OR H, R319 -/
  | orH
  /-- 0xB5: OR L, R319 -/
  | orL
  /-- 0xB6: OR (HL), R320 -/
  | orAtHl
  /-- 0xB7: OR A, R319 -/
  | orA
  /-- 0xB8: CP B, R322 -/
  | cpB
  /-- 0xB9: CP C, R322 -/
  | cpC
  /-- 0xBA: CP D, R322 -/
  | cpD
  /-- 0xBB: CP E, R322 -/
  | cpE
  /-- 0xBC: CP H, R322 -/
  | cpH
  /-- 0xBD: CP L, R322 -/
  | cpL
  /-- 0xBE: CP (HL), R323 -/
  | cpAtHl
  /-- 0xBF: CP A, R322 -/
  | cpA
  /-- 0xC0: RET NZ, R449 -/
  | retNz
  /-- 0xC1: POP BC, R255 -/
  | popBc
  /-- 0xC5: PUSH BC, R254 -/
  | pushBc
  /-- 0xC7: RST 00H, R451 -/
  | rst00
  /-- 0xC8: RET Z, R449 -/
  | retZ
  /-- 0xC9: RET, R448 -/
  | ret
  /-- 0xCB: the CB prefix byte itself, R489 -/
  | prefixCb
  /-- 0xCF: RST 08H, R451 -/
  | rst08
  /-- 0xD0: RET NC, R449 -/
  | retNc
  /-- 0xD1: POP DE, R255 -/
  | popDe
  /-- 0xD3: unassigned opcode 0xD3, R490 -/
  | illegalD3
  /-- 0xD5: PUSH DE, R254 -/
  | pushDe
  /-- 0xD7: RST 10H, R451 -/
  | rst10
  /-- 0xD8: RET C, R449 -/
  | retC
  /-- 0xD9: RETI, R450 -/
  | reti
  /-- 0xDB: unassigned opcode 0xDB, R490 -/
  | illegalDB
  /-- 0xDD: unassigned opcode 0xDD, R490 -/
  | illegalDD
  /-- 0xDF: RST 18H, R451 -/
  | rst18
  /-- 0xE1: POP HL, R255 -/
  | popHl
  /-- 0xE2: LD (C),A, R215 -/
  | ldAtCA
  /-- 0xE3: unassigned opcode 0xE3, R490 -/
  | illegalE3
  /-- 0xE4: unassigned opcode 0xE4, R490 -/
  | illegalE4
  /-- 0xE5: PUSH HL, R254 -/
  | pushHl
  /-- 0xE7: RST 20H, R451 -/
  | rst20
  /-- 0xE9: JP HL, R443 -/
  | jpHl
  /-- 0xEB: unassigned opcode 0xEB, R490 -/
  | illegalEB
  /-- 0xEC: unassigned opcode 0xEC, R490 -/
  | illegalEC
  /-- 0xED: unassigned opcode 0xED, R490 -/
  | illegalED
  /-- 0xEF: RST 28H, R451 -/
  | rst28
  /-- 0xF1: POP AF, R256 -/
  | popAf
  /-- 0xF2: LD A,(C), R214 -/
  | ldAAtC
  /-- 0xF3: DI, R485 -/
  | di
  /-- 0xF4: unassigned opcode 0xF4, R490 -/
  | illegalF4
  /-- 0xF5: PUSH AF, R254 -/
  | pushAf
  /-- 0xF7: RST 30H, R451 -/
  | rst30
  /-- 0xF9: LD SP,HL, R252 -/
  | ldSpHl
  /-- 0xFB: EI, R486 -/
  | ei
  /-- 0xFC: unassigned opcode 0xFC, R490 -/
  | illegalFC
  /-- 0xFD: unassigned opcode 0xFD, R490 -/
  | illegalFD
  /-- 0xFF: RST 38H, R451 -/
  | rst38
  /-- 0xCB 0x00: RLC B, R385 -/
  | rlcB
  /-- 0xCB 0x01: RLC C, R385 -/
  | rlcC
  /-- 0xCB 0x02: RLC D, R385 -/
  | rlcD
  /-- 0xCB 0x03: RLC E, R385 -/
  | rlcE
  /-- 0xCB 0x04: RLC H, R385 -/
  | rlcH
  /-- 0xCB 0x05: RLC L, R385 -/
  | rlcL
  /-- 0xCB 0x06: RLC (HL), R386 -/
  | rlcAtHl
  /-- 0xCB 0x07: RLC A, R385 -/
  | rlcA
  /-- 0xCB 0x08: RRC B, R387 -/
  | rrcB
  /-- 0xCB 0x09: RRC C, R387 -/
  | rrcC
  /-- 0xCB 0x0A: RRC D, R387 -/
  | rrcD
  /-- 0xCB 0x0B: RRC E, R387 -/
  | rrcE
  /-- 0xCB 0x0C: RRC H, R387 -/
  | rrcH
  /-- 0xCB 0x0D: RRC L, R387 -/
  | rrcL
  /-- 0xCB 0x0E: RRC (HL), R388 -/
  | rrcAtHl
  /-- 0xCB 0x0F: RRC A, R387 -/
  | rrcA
  /-- 0xCB 0x10: RL B, R389 -/
  | rlB
  /-- 0xCB 0x11: RL C, R389 -/
  | rlC
  /-- 0xCB 0x12: RL D, R389 -/
  | rlD
  /-- 0xCB 0x13: RL E, R389 -/
  | rlE
  /-- 0xCB 0x14: RL H, R389 -/
  | rlH
  /-- 0xCB 0x15: RL L, R389 -/
  | rlL
  /-- 0xCB 0x16: RL (HL), R390 -/
  | rlAtHl
  /-- 0xCB 0x17: RL A, R389 -/
  | rlA
  /-- 0xCB 0x18: RR B, R391 -/
  | rrB
  /-- 0xCB 0x19: RR C, R391 -/
  | rrC
  /-- 0xCB 0x1A: RR D, R391 -/
  | rrD
  /-- 0xCB 0x1B: RR E, R391 -/
  | rrE
  /-- 0xCB 0x1C: RR H, R391 -/
  | rrH
  /-- 0xCB 0x1D: RR L, R391 -/
  | rrL
  /-- 0xCB 0x1E: RR (HL), R392 -/
  | rrAtHl
  /-- 0xCB 0x1F: RR A, R391 -/
  | rrA
  /-- 0xCB 0x20: SLA B, R393 -/
  | slaB
  /-- 0xCB 0x21: SLA C, R393 -/
  | slaC
  /-- 0xCB 0x22: SLA D, R393 -/
  | slaD
  /-- 0xCB 0x23: SLA E, R393 -/
  | slaE
  /-- 0xCB 0x24: SLA H, R393 -/
  | slaH
  /-- 0xCB 0x25: SLA L, R393 -/
  | slaL
  /-- 0xCB 0x26: SLA (HL), R394 -/
  | slaAtHl
  /-- 0xCB 0x27: SLA A, R393 -/
  | slaA
  /-- 0xCB 0x28: SRA B, R395 -/
  | sraB
  /-- 0xCB 0x29: SRA C, R395 -/
  | sraC
  /-- 0xCB 0x2A: SRA D, R395 -/
  | sraD
  /-- 0xCB 0x2B: SRA E, R395 -/
  | sraE
  /-- 0xCB 0x2C: SRA H, R395 -/
  | sraH
  /-- 0xCB 0x2D: SRA L, R395 -/
  | sraL
  /-- 0xCB 0x2E: SRA (HL), R396 -/
  | sraAtHl
  /-- 0xCB 0x2F: SRA A, R395 -/
  | sraA
  /-- 0xCB 0x30: SWAP B, R397 -/
  | swapB
  /-- 0xCB 0x31: SWAP C, R397 -/
  | swapC
  /-- 0xCB 0x32: SWAP D, R397 -/
  | swapD
  /-- 0xCB 0x33: SWAP E, R397 -/
  | swapE
  /-- 0xCB 0x34: SWAP H, R397 -/
  | swapH
  /-- 0xCB 0x35: SWAP L, R397 -/
  | swapL
  /-- 0xCB 0x36: SWAP (HL), R398 -/
  | swapAtHl
  /-- 0xCB 0x37: SWAP A, R397 -/
  | swapA
  /-- 0xCB 0x38: SRL B, R399 -/
  | srlB
  /-- 0xCB 0x39: SRL C, R399 -/
  | srlC
  /-- 0xCB 0x3A: SRL D, R399 -/
  | srlD
  /-- 0xCB 0x3B: SRL E, R399 -/
  | srlE
  /-- 0xCB 0x3C: SRL H, R399 -/
  | srlH
  /-- 0xCB 0x3D: SRL L, R399 -/
  | srlL
  /-- 0xCB 0x3E: SRL (HL), R400 -/
  | srlAtHl
  /-- 0xCB 0x3F: SRL A, R399 -/
  | srlA
  /-- 0xCB 0x40: BIT 0,B, R420 -/
  | bit0B
  /-- 0xCB 0x41: BIT 0,C, R420 -/
  | bit0C
  /-- 0xCB 0x42: BIT 0,D, R420 -/
  | bit0D
  /-- 0xCB 0x43: BIT 0,E, R420 -/
  | bit0E
  /-- 0xCB 0x44: BIT 0,H, R420 -/
  | bit0H
  /-- 0xCB 0x45: BIT 0,L, R420 -/
  | bit0L
  /-- 0xCB 0x46: BIT 0,(HL), R421 -/
  | bit0AtHl
  /-- 0xCB 0x47: BIT 0,A, R420 -/
  | bit0A
  /-- 0xCB 0x48: BIT 1,B, R420 -/
  | bit1B
  /-- 0xCB 0x49: BIT 1,C, R420 -/
  | bit1C
  /-- 0xCB 0x4A: BIT 1,D, R420 -/
  | bit1D
  /-- 0xCB 0x4B: BIT 1,E, R420 -/
  | bit1E
  /-- 0xCB 0x4C: BIT 1,H, R420 -/
  | bit1H
  /-- 0xCB 0x4D: BIT 1,L, R420 -/
  | bit1L
  /-- 0xCB 0x4E: BIT 1,(HL), R421 -/
  | bit1AtHl
  /-- 0xCB 0x4F: BIT 1,A, R420 -/
  | bit1A
  /-- 0xCB 0x50: BIT 2,B, R420 -/
  | bit2B
  /-- 0xCB 0x51: BIT 2,C, R420 -/
  | bit2C
  /-- 0xCB 0x52: BIT 2,D, R420 -/
  | bit2D
  /-- 0xCB 0x53: BIT 2,E, R420 -/
  | bit2E
  /-- 0xCB 0x54: BIT 2,H, R420 -/
  | bit2H
  /-- 0xCB 0x55: BIT 2,L, R420 -/
  | bit2L
  /-- 0xCB 0x56: BIT 2,(HL), R421 -/
  | bit2AtHl
  /-- 0xCB 0x57: BIT 2,A, R420 -/
  | bit2A
  /-- 0xCB 0x58: BIT 3,B, R420 -/
  | bit3B
  /-- 0xCB 0x59: BIT 3,C, R420 -/
  | bit3C
  /-- 0xCB 0x5A: BIT 3,D, R420 -/
  | bit3D
  /-- 0xCB 0x5B: BIT 3,E, R420 -/
  | bit3E
  /-- 0xCB 0x5C: BIT 3,H, R420 -/
  | bit3H
  /-- 0xCB 0x5D: BIT 3,L, R420 -/
  | bit3L
  /-- 0xCB 0x5E: BIT 3,(HL), R421 -/
  | bit3AtHl
  /-- 0xCB 0x5F: BIT 3,A, R420 -/
  | bit3A
  /-- 0xCB 0x60: BIT 4,B, R420 -/
  | bit4B
  /-- 0xCB 0x61: BIT 4,C, R420 -/
  | bit4C
  /-- 0xCB 0x62: BIT 4,D, R420 -/
  | bit4D
  /-- 0xCB 0x63: BIT 4,E, R420 -/
  | bit4E
  /-- 0xCB 0x64: BIT 4,H, R420 -/
  | bit4H
  /-- 0xCB 0x65: BIT 4,L, R420 -/
  | bit4L
  /-- 0xCB 0x66: BIT 4,(HL), R421 -/
  | bit4AtHl
  /-- 0xCB 0x67: BIT 4,A, R420 -/
  | bit4A
  /-- 0xCB 0x68: BIT 5,B, R420 -/
  | bit5B
  /-- 0xCB 0x69: BIT 5,C, R420 -/
  | bit5C
  /-- 0xCB 0x6A: BIT 5,D, R420 -/
  | bit5D
  /-- 0xCB 0x6B: BIT 5,E, R420 -/
  | bit5E
  /-- 0xCB 0x6C: BIT 5,H, R420 -/
  | bit5H
  /-- 0xCB 0x6D: BIT 5,L, R420 -/
  | bit5L
  /-- 0xCB 0x6E: BIT 5,(HL), R421 -/
  | bit5AtHl
  /-- 0xCB 0x6F: BIT 5,A, R420 -/
  | bit5A
  /-- 0xCB 0x70: BIT 6,B, R420 -/
  | bit6B
  /-- 0xCB 0x71: BIT 6,C, R420 -/
  | bit6C
  /-- 0xCB 0x72: BIT 6,D, R420 -/
  | bit6D
  /-- 0xCB 0x73: BIT 6,E, R420 -/
  | bit6E
  /-- 0xCB 0x74: BIT 6,H, R420 -/
  | bit6H
  /-- 0xCB 0x75: BIT 6,L, R420 -/
  | bit6L
  /-- 0xCB 0x76: BIT 6,(HL), R421 -/
  | bit6AtHl
  /-- 0xCB 0x77: BIT 6,A, R420 -/
  | bit6A
  /-- 0xCB 0x78: BIT 7,B, R420 -/
  | bit7B
  /-- 0xCB 0x79: BIT 7,C, R420 -/
  | bit7C
  /-- 0xCB 0x7A: BIT 7,D, R420 -/
  | bit7D
  /-- 0xCB 0x7B: BIT 7,E, R420 -/
  | bit7E
  /-- 0xCB 0x7C: BIT 7,H, R420 -/
  | bit7H
  /-- 0xCB 0x7D: BIT 7,L, R420 -/
  | bit7L
  /-- 0xCB 0x7E: BIT 7,(HL), R421 -/
  | bit7AtHl
  /-- 0xCB 0x7F: BIT 7,A, R420 -/
  | bit7A
  /-- 0xCB 0x80: RES 0,B, R422 -/
  | res0B
  /-- 0xCB 0x81: RES 0,C, R422 -/
  | res0C
  /-- 0xCB 0x82: RES 0,D, R422 -/
  | res0D
  /-- 0xCB 0x83: RES 0,E, R422 -/
  | res0E
  /-- 0xCB 0x84: RES 0,H, R422 -/
  | res0H
  /-- 0xCB 0x85: RES 0,L, R422 -/
  | res0L
  /-- 0xCB 0x86: RES 0,(HL), R423 -/
  | res0AtHl
  /-- 0xCB 0x87: RES 0,A, R422 -/
  | res0A
  /-- 0xCB 0x88: RES 1,B, R422 -/
  | res1B
  /-- 0xCB 0x89: RES 1,C, R422 -/
  | res1C
  /-- 0xCB 0x8A: RES 1,D, R422 -/
  | res1D
  /-- 0xCB 0x8B: RES 1,E, R422 -/
  | res1E
  /-- 0xCB 0x8C: RES 1,H, R422 -/
  | res1H
  /-- 0xCB 0x8D: RES 1,L, R422 -/
  | res1L
  /-- 0xCB 0x8E: RES 1,(HL), R423 -/
  | res1AtHl
  /-- 0xCB 0x8F: RES 1,A, R422 -/
  | res1A
  /-- 0xCB 0x90: RES 2,B, R422 -/
  | res2B
  /-- 0xCB 0x91: RES 2,C, R422 -/
  | res2C
  /-- 0xCB 0x92: RES 2,D, R422 -/
  | res2D
  /-- 0xCB 0x93: RES 2,E, R422 -/
  | res2E
  /-- 0xCB 0x94: RES 2,H, R422 -/
  | res2H
  /-- 0xCB 0x95: RES 2,L, R422 -/
  | res2L
  /-- 0xCB 0x96: RES 2,(HL), R423 -/
  | res2AtHl
  /-- 0xCB 0x97: RES 2,A, R422 -/
  | res2A
  /-- 0xCB 0x98: RES 3,B, R422 -/
  | res3B
  /-- 0xCB 0x99: RES 3,C, R422 -/
  | res3C
  /-- 0xCB 0x9A: RES 3,D, R422 -/
  | res3D
  /-- 0xCB 0x9B: RES 3,E, R422 -/
  | res3E
  /-- 0xCB 0x9C: RES 3,H, R422 -/
  | res3H
  /-- 0xCB 0x9D: RES 3,L, R422 -/
  | res3L
  /-- 0xCB 0x9E: RES 3,(HL), R423 -/
  | res3AtHl
  /-- 0xCB 0x9F: RES 3,A, R422 -/
  | res3A
  /-- 0xCB 0xA0: RES 4,B, R422 -/
  | res4B
  /-- 0xCB 0xA1: RES 4,C, R422 -/
  | res4C
  /-- 0xCB 0xA2: RES 4,D, R422 -/
  | res4D
  /-- 0xCB 0xA3: RES 4,E, R422 -/
  | res4E
  /-- 0xCB 0xA4: RES 4,H, R422 -/
  | res4H
  /-- 0xCB 0xA5: RES 4,L, R422 -/
  | res4L
  /-- 0xCB 0xA6: RES 4,(HL), R423 -/
  | res4AtHl
  /-- 0xCB 0xA7: RES 4,A, R422 -/
  | res4A
  /-- 0xCB 0xA8: RES 5,B, R422 -/
  | res5B
  /-- 0xCB 0xA9: RES 5,C, R422 -/
  | res5C
  /-- 0xCB 0xAA: RES 5,D, R422 -/
  | res5D
  /-- 0xCB 0xAB: RES 5,E, R422 -/
  | res5E
  /-- 0xCB 0xAC: RES 5,H, R422 -/
  | res5H
  /-- 0xCB 0xAD: RES 5,L, R422 -/
  | res5L
  /-- 0xCB 0xAE: RES 5,(HL), R423 -/
  | res5AtHl
  /-- 0xCB 0xAF: RES 5,A, R422 -/
  | res5A
  /-- 0xCB 0xB0: RES 6,B, R422 -/
  | res6B
  /-- 0xCB 0xB1: RES 6,C, R422 -/
  | res6C
  /-- 0xCB 0xB2: RES 6,D, R422 -/
  | res6D
  /-- 0xCB 0xB3: RES 6,E, R422 -/
  | res6E
  /-- 0xCB 0xB4: RES 6,H, R422 -/
  | res6H
  /-- 0xCB 0xB5: RES 6,L, R422 -/
  | res6L
  /-- 0xCB 0xB6: RES 6,(HL), R423 -/
  | res6AtHl
  /-- 0xCB 0xB7: RES 6,A, R422 -/
  | res6A
  /-- 0xCB 0xB8: RES 7,B, R422 -/
  | res7B
  /-- 0xCB 0xB9: RES 7,C, R422 -/
  | res7C
  /-- 0xCB 0xBA: RES 7,D, R422 -/
  | res7D
  /-- 0xCB 0xBB: RES 7,E, R422 -/
  | res7E
  /-- 0xCB 0xBC: RES 7,H, R422 -/
  | res7H
  /-- 0xCB 0xBD: RES 7,L, R422 -/
  | res7L
  /-- 0xCB 0xBE: RES 7,(HL), R423 -/
  | res7AtHl
  /-- 0xCB 0xBF: RES 7,A, R422 -/
  | res7A
  /-- 0xCB 0xC0: SET 0,B, R424 -/
  | set0B
  /-- 0xCB 0xC1: SET 0,C, R424 -/
  | set0C
  /-- 0xCB 0xC2: SET 0,D, R424 -/
  | set0D
  /-- 0xCB 0xC3: SET 0,E, R424 -/
  | set0E
  /-- 0xCB 0xC4: SET 0,H, R424 -/
  | set0H
  /-- 0xCB 0xC5: SET 0,L, R424 -/
  | set0L
  /-- 0xCB 0xC6: SET 0,(HL), R425 -/
  | set0AtHl
  /-- 0xCB 0xC7: SET 0,A, R424 -/
  | set0A
  /-- 0xCB 0xC8: SET 1,B, R424 -/
  | set1B
  /-- 0xCB 0xC9: SET 1,C, R424 -/
  | set1C
  /-- 0xCB 0xCA: SET 1,D, R424 -/
  | set1D
  /-- 0xCB 0xCB: SET 1,E, R424 -/
  | set1E
  /-- 0xCB 0xCC: SET 1,H, R424 -/
  | set1H
  /-- 0xCB 0xCD: SET 1,L, R424 -/
  | set1L
  /-- 0xCB 0xCE: SET 1,(HL), R425 -/
  | set1AtHl
  /-- 0xCB 0xCF: SET 1,A, R424 -/
  | set1A
  /-- 0xCB 0xD0: SET 2,B, R424 -/
  | set2B
  /-- 0xCB 0xD1: SET 2,C, R424 -/
  | set2C
  /-- 0xCB 0xD2: SET 2,D, R424 -/
  | set2D
  /-- 0xCB 0xD3: SET 2,E, R424 -/
  | set2E
  /-- 0xCB 0xD4: SET 2,H, R424 -/
  | set2H
  /-- 0xCB 0xD5: SET 2,L, R424 -/
  | set2L
  /-- 0xCB 0xD6: SET 2,(HL), R425 -/
  | set2AtHl
  /-- 0xCB 0xD7: SET 2,A, R424 -/
  | set2A
  /-- 0xCB 0xD8: SET 3,B, R424 -/
  | set3B
  /-- 0xCB 0xD9: SET 3,C, R424 -/
  | set3C
  /-- 0xCB 0xDA: SET 3,D, R424 -/
  | set3D
  /-- 0xCB 0xDB: SET 3,E, R424 -/
  | set3E
  /-- 0xCB 0xDC: SET 3,H, R424 -/
  | set3H
  /-- 0xCB 0xDD: SET 3,L, R424 -/
  | set3L
  /-- 0xCB 0xDE: SET 3,(HL), R425 -/
  | set3AtHl
  /-- 0xCB 0xDF: SET 3,A, R424 -/
  | set3A
  /-- 0xCB 0xE0: SET 4,B, R424 -/
  | set4B
  /-- 0xCB 0xE1: SET 4,C, R424 -/
  | set4C
  /-- 0xCB 0xE2: SET 4,D, R424 -/
  | set4D
  /-- 0xCB 0xE3: SET 4,E, R424 -/
  | set4E
  /-- 0xCB 0xE4: SET 4,H, R424 -/
  | set4H
  /-- 0xCB 0xE5: SET 4,L, R424 -/
  | set4L
  /-- 0xCB 0xE6: SET 4,(HL), R425 -/
  | set4AtHl
  /-- 0xCB 0xE7: SET 4,A, R424 -/
  | set4A
  /-- 0xCB 0xE8: SET 5,B, R424 -/
  | set5B
  /-- 0xCB 0xE9: SET 5,C, R424 -/
  | set5C
  /-- 0xCB 0xEA: SET 5,D, R424 -/
  | set5D
  /-- 0xCB 0xEB: SET 5,E, R424 -/
  | set5E
  /-- 0xCB 0xEC: SET 5,H, R424 -/
  | set5H
  /-- 0xCB 0xED: SET 5,L, R424 -/
  | set5L
  /-- 0xCB 0xEE: SET 5,(HL), R425 -/
  | set5AtHl
  /-- 0xCB 0xEF: SET 5,A, R424 -/
  | set5A
  /-- 0xCB 0xF0: SET 6,B, R424 -/
  | set6B
  /-- 0xCB 0xF1: SET 6,C, R424 -/
  | set6C
  /-- 0xCB 0xF2: SET 6,D, R424 -/
  | set6D
  /-- 0xCB 0xF3: SET 6,E, R424 -/
  | set6E
  /-- 0xCB 0xF4: SET 6,H, R424 -/
  | set6H
  /-- 0xCB 0xF5: SET 6,L, R424 -/
  | set6L
  /-- 0xCB 0xF6: SET 6,(HL), R425 -/
  | set6AtHl
  /-- 0xCB 0xF7: SET 6,A, R424 -/
  | set6A
  /-- 0xCB 0xF8: SET 7,B, R424 -/
  | set7B
  /-- 0xCB 0xF9: SET 7,C, R424 -/
  | set7C
  /-- 0xCB 0xFA: SET 7,D, R424 -/
  | set7D
  /-- 0xCB 0xFB: SET 7,E, R424 -/
  | set7E
  /-- 0xCB 0xFC: SET 7,H, R424 -/
  | set7H
  /-- 0xCB 0xFD: SET 7,L, R424 -/
  | set7L
  /-- 0xCB 0xFE: SET 7,(HL), R425 -/
  | set7AtHl
  /-- 0xCB 0xFF: SET 7,A, R424 -/
  | set7A
deriving DecidableEq, Repr

namespace Instr

/-- LD r,r' (R201): destination, source. -/
def ldReg : Reg8 → Reg8 → Instr
  | .b, .b => .ldBB
  | .b, .c => .ldBC
  | .b, .d => .ldBD
  | .b, .e => .ldBE
  | .b, .h => .ldBH
  | .b, .l => .ldBL
  | .b, .a => .ldBA
  | .c, .b => .ldCB
  | .c, .c => .ldCC
  | .c, .d => .ldCD
  | .c, .e => .ldCE
  | .c, .h => .ldCH
  | .c, .l => .ldCL
  | .c, .a => .ldCA
  | .d, .b => .ldDB
  | .d, .c => .ldDC
  | .d, .d => .ldDD
  | .d, .e => .ldDE
  | .d, .h => .ldDH
  | .d, .l => .ldDL
  | .d, .a => .ldDA
  | .e, .b => .ldEB
  | .e, .c => .ldEC
  | .e, .d => .ldED
  | .e, .e => .ldEE
  | .e, .h => .ldEH
  | .e, .l => .ldEL
  | .e, .a => .ldEA
  | .h, .b => .ldHB
  | .h, .c => .ldHC
  | .h, .d => .ldHD
  | .h, .e => .ldHE
  | .h, .h => .ldHH
  | .h, .l => .ldHL
  | .h, .a => .ldHA
  | .l, .b => .ldLB
  | .l, .c => .ldLC
  | .l, .d => .ldLD
  | .l, .e => .ldLE
  | .l, .h => .ldLH
  | .l, .l => .ldLL
  | .l, .a => .ldLA
  | .a, .b => .ldAB
  | .a, .c => .ldAC
  | .a, .d => .ldAD
  | .a, .e => .ldAE
  | .a, .h => .ldAH
  | .a, .l => .ldAL
  | .a, .a => .ldAA

/-- LD r,d8 (R202). -/
def ldImm : Reg8 → Byte → Instr
  | .b, v => .ldBImm v
  | .c, v => .ldCImm v
  | .d, v => .ldDImm v
  | .e, v => .ldEImm v
  | .h, v => .ldHImm v
  | .l, v => .ldLImm v
  | .a, v => .ldAImm v

/-- LD r,(HL) (R203). -/
def ldRegAtHl : Reg8 → Instr
  | .b => .ldBAtHl
  | .c => .ldCAtHl
  | .d => .ldDAtHl
  | .e => .ldEAtHl
  | .h => .ldHAtHl
  | .l => .ldLAtHl
  | .a => .ldAAtHl

/-- LD (HL),r (R204). -/
def ldAtHlReg : Reg8 → Instr
  | .b => .ldAtHlB
  | .c => .ldAtHlC
  | .d => .ldAtHlD
  | .e => .ldAtHlE
  | .h => .ldAtHlH
  | .l => .ldAtHlL
  | .a => .ldAtHlA

/-- LD rr,d16 (R250). -/
def ldPairImm : Pair → Word → Instr
  | .bc, v => .ldBcImm v
  | .de, v => .ldDeImm v
  | .hl, v => .ldHlImm v
  | .sp, v => .ldSpImm v

/-- PUSH rr (R254). -/
def push : StackPair → Instr
  | .bc => .pushBc
  | .de => .pushDe
  | .hl => .pushHl
  | .af => .pushAf

/-- POP rr and POP AF (R255, R256). -/
def pop : StackPair → Instr
  | .bc => .popBc
  | .de => .popDe
  | .hl => .popHl
  | .af => .popAf

/-- The register form of an ALU operation (R300): operation, source. -/
def aluReg : AluOp → Reg8 → Instr
  | .add, .b => .addAB
  | .add, .c => .addAC
  | .add, .d => .addAD
  | .add, .e => .addAE
  | .add, .h => .addAH
  | .add, .l => .addAL
  | .add, .a => .addAA
  | .adc, .b => .adcAB
  | .adc, .c => .adcAC
  | .adc, .d => .adcAD
  | .adc, .e => .adcAE
  | .adc, .h => .adcAH
  | .adc, .l => .adcAL
  | .adc, .a => .adcAA
  | .sub, .b => .subB
  | .sub, .c => .subC
  | .sub, .d => .subD
  | .sub, .e => .subE
  | .sub, .h => .subH
  | .sub, .l => .subL
  | .sub, .a => .subA
  | .sbc, .b => .sbcAB
  | .sbc, .c => .sbcAC
  | .sbc, .d => .sbcAD
  | .sbc, .e => .sbcAE
  | .sbc, .h => .sbcAH
  | .sbc, .l => .sbcAL
  | .sbc, .a => .sbcAA
  | .and, .b => .andB
  | .and, .c => .andC
  | .and, .d => .andD
  | .and, .e => .andE
  | .and, .h => .andH
  | .and, .l => .andL
  | .and, .a => .andA
  | .xor, .b => .xorB
  | .xor, .c => .xorC
  | .xor, .d => .xorD
  | .xor, .e => .xorE
  | .xor, .h => .xorH
  | .xor, .l => .xorL
  | .xor, .a => .xorA
  | .or, .b => .orB
  | .or, .c => .orC
  | .or, .d => .orD
  | .or, .e => .orE
  | .or, .h => .orH
  | .or, .l => .orL
  | .or, .a => .orA
  | .cp, .b => .cpB
  | .cp, .c => .cpC
  | .cp, .d => .cpD
  | .cp, .e => .cpE
  | .cp, .h => .cpH
  | .cp, .l => .cpL
  | .cp, .a => .cpA

/-- The memory form of an ALU operation (R300). -/
def aluAtHl : AluOp → Instr
  | .add => .addAAtHl
  | .adc => .adcAAtHl
  | .sub => .subAtHl
  | .sbc => .sbcAAtHl
  | .and => .andAtHl
  | .xor => .xorAtHl
  | .or => .orAtHl
  | .cp => .cpAtHl

/-- The immediate form of an ALU operation (R300). -/
def aluImm : AluOp → Byte → Instr
  | .add, v => .addAImm v
  | .adc, v => .adcAImm v
  | .sub, v => .subImm v
  | .sbc, v => .sbcAImm v
  | .and, v => .andImm v
  | .xor, v => .xorImm v
  | .or, v => .orImm v
  | .cp, v => .cpImm v

/-- INC r (R325). -/
def incReg : Reg8 → Instr
  | .b => .incB
  | .c => .incC
  | .d => .incD
  | .e => .incE
  | .h => .incH
  | .l => .incL
  | .a => .incA

/-- DEC r (R327). -/
def decReg : Reg8 → Instr
  | .b => .decB
  | .c => .decC
  | .d => .decD
  | .e => .decE
  | .h => .decH
  | .l => .decL
  | .a => .decA

/-- ADD HL,rr (R350). -/
def addHlPair : Pair → Instr
  | .bc => .addHlBc
  | .de => .addHlDe
  | .hl => .addHlHl
  | .sp => .addHlSp

/-- INC rr (R351). -/
def incPair : Pair → Instr
  | .bc => .incBc
  | .de => .incDe
  | .hl => .incHl
  | .sp => .incSp

/-- DEC rr (R352). -/
def decPair : Pair → Instr
  | .bc => .decBc
  | .de => .decDe
  | .hl => .decHl
  | .sp => .decSp

/-- The register form of a CB rotate, shift or SWAP (R380). -/
def shiftReg : ShiftOp → Reg8 → Instr
  | .rlc, .b => .rlcB
  | .rlc, .c => .rlcC
  | .rlc, .d => .rlcD
  | .rlc, .e => .rlcE
  | .rlc, .h => .rlcH
  | .rlc, .l => .rlcL
  | .rlc, .a => .rlcA
  | .rrc, .b => .rrcB
  | .rrc, .c => .rrcC
  | .rrc, .d => .rrcD
  | .rrc, .e => .rrcE
  | .rrc, .h => .rrcH
  | .rrc, .l => .rrcL
  | .rrc, .a => .rrcA
  | .rl, .b => .rlB
  | .rl, .c => .rlC
  | .rl, .d => .rlD
  | .rl, .e => .rlE
  | .rl, .h => .rlH
  | .rl, .l => .rlL
  | .rl, .a => .rlA
  | .rr, .b => .rrB
  | .rr, .c => .rrC
  | .rr, .d => .rrD
  | .rr, .e => .rrE
  | .rr, .h => .rrH
  | .rr, .l => .rrL
  | .rr, .a => .rrA
  | .sla, .b => .slaB
  | .sla, .c => .slaC
  | .sla, .d => .slaD
  | .sla, .e => .slaE
  | .sla, .h => .slaH
  | .sla, .l => .slaL
  | .sla, .a => .slaA
  | .sra, .b => .sraB
  | .sra, .c => .sraC
  | .sra, .d => .sraD
  | .sra, .e => .sraE
  | .sra, .h => .sraH
  | .sra, .l => .sraL
  | .sra, .a => .sraA
  | .swap, .b => .swapB
  | .swap, .c => .swapC
  | .swap, .d => .swapD
  | .swap, .e => .swapE
  | .swap, .h => .swapH
  | .swap, .l => .swapL
  | .swap, .a => .swapA
  | .srl, .b => .srlB
  | .srl, .c => .srlC
  | .srl, .d => .srlD
  | .srl, .e => .srlE
  | .srl, .h => .srlH
  | .srl, .l => .srlL
  | .srl, .a => .srlA

/-- The memory form of a CB rotate, shift or SWAP (R380). -/
def shiftAtHl : ShiftOp → Instr
  | .rlc => .rlcAtHl
  | .rrc => .rrcAtHl
  | .rl => .rlAtHl
  | .rr => .rrAtHl
  | .sla => .slaAtHl
  | .sra => .sraAtHl
  | .swap => .swapAtHl
  | .srl => .srlAtHl

/-- BIT b,r (R420): bit number, operand. -/
def bitReg : Fin 8 → Reg8 → Instr
  | 0, .b => .bit0B
  | 0, .c => .bit0C
  | 0, .d => .bit0D
  | 0, .e => .bit0E
  | 0, .h => .bit0H
  | 0, .l => .bit0L
  | 0, .a => .bit0A
  | 1, .b => .bit1B
  | 1, .c => .bit1C
  | 1, .d => .bit1D
  | 1, .e => .bit1E
  | 1, .h => .bit1H
  | 1, .l => .bit1L
  | 1, .a => .bit1A
  | 2, .b => .bit2B
  | 2, .c => .bit2C
  | 2, .d => .bit2D
  | 2, .e => .bit2E
  | 2, .h => .bit2H
  | 2, .l => .bit2L
  | 2, .a => .bit2A
  | 3, .b => .bit3B
  | 3, .c => .bit3C
  | 3, .d => .bit3D
  | 3, .e => .bit3E
  | 3, .h => .bit3H
  | 3, .l => .bit3L
  | 3, .a => .bit3A
  | 4, .b => .bit4B
  | 4, .c => .bit4C
  | 4, .d => .bit4D
  | 4, .e => .bit4E
  | 4, .h => .bit4H
  | 4, .l => .bit4L
  | 4, .a => .bit4A
  | 5, .b => .bit5B
  | 5, .c => .bit5C
  | 5, .d => .bit5D
  | 5, .e => .bit5E
  | 5, .h => .bit5H
  | 5, .l => .bit5L
  | 5, .a => .bit5A
  | 6, .b => .bit6B
  | 6, .c => .bit6C
  | 6, .d => .bit6D
  | 6, .e => .bit6E
  | 6, .h => .bit6H
  | 6, .l => .bit6L
  | 6, .a => .bit6A
  | 7, .b => .bit7B
  | 7, .c => .bit7C
  | 7, .d => .bit7D
  | 7, .e => .bit7E
  | 7, .h => .bit7H
  | 7, .l => .bit7L
  | 7, .a => .bit7A

/-- BIT b,(HL) (R421). -/
def bitAtHl : Fin 8 → Instr
  | 0 => .bit0AtHl
  | 1 => .bit1AtHl
  | 2 => .bit2AtHl
  | 3 => .bit3AtHl
  | 4 => .bit4AtHl
  | 5 => .bit5AtHl
  | 6 => .bit6AtHl
  | 7 => .bit7AtHl

/-- RES b,r (R422): bit number, operand. -/
def resReg : Fin 8 → Reg8 → Instr
  | 0, .b => .res0B
  | 0, .c => .res0C
  | 0, .d => .res0D
  | 0, .e => .res0E
  | 0, .h => .res0H
  | 0, .l => .res0L
  | 0, .a => .res0A
  | 1, .b => .res1B
  | 1, .c => .res1C
  | 1, .d => .res1D
  | 1, .e => .res1E
  | 1, .h => .res1H
  | 1, .l => .res1L
  | 1, .a => .res1A
  | 2, .b => .res2B
  | 2, .c => .res2C
  | 2, .d => .res2D
  | 2, .e => .res2E
  | 2, .h => .res2H
  | 2, .l => .res2L
  | 2, .a => .res2A
  | 3, .b => .res3B
  | 3, .c => .res3C
  | 3, .d => .res3D
  | 3, .e => .res3E
  | 3, .h => .res3H
  | 3, .l => .res3L
  | 3, .a => .res3A
  | 4, .b => .res4B
  | 4, .c => .res4C
  | 4, .d => .res4D
  | 4, .e => .res4E
  | 4, .h => .res4H
  | 4, .l => .res4L
  | 4, .a => .res4A
  | 5, .b => .res5B
  | 5, .c => .res5C
  | 5, .d => .res5D
  | 5, .e => .res5E
  | 5, .h => .res5H
  | 5, .l => .res5L
  | 5, .a => .res5A
  | 6, .b => .res6B
  | 6, .c => .res6C
  | 6, .d => .res6D
  | 6, .e => .res6E
  | 6, .h => .res6H
  | 6, .l => .res6L
  | 6, .a => .res6A
  | 7, .b => .res7B
  | 7, .c => .res7C
  | 7, .d => .res7D
  | 7, .e => .res7E
  | 7, .h => .res7H
  | 7, .l => .res7L
  | 7, .a => .res7A

/-- RES b,(HL) (R423). -/
def resAtHl : Fin 8 → Instr
  | 0 => .res0AtHl
  | 1 => .res1AtHl
  | 2 => .res2AtHl
  | 3 => .res3AtHl
  | 4 => .res4AtHl
  | 5 => .res5AtHl
  | 6 => .res6AtHl
  | 7 => .res7AtHl

/-- SET b,r (R424): bit number, operand. -/
def setReg : Fin 8 → Reg8 → Instr
  | 0, .b => .set0B
  | 0, .c => .set0C
  | 0, .d => .set0D
  | 0, .e => .set0E
  | 0, .h => .set0H
  | 0, .l => .set0L
  | 0, .a => .set0A
  | 1, .b => .set1B
  | 1, .c => .set1C
  | 1, .d => .set1D
  | 1, .e => .set1E
  | 1, .h => .set1H
  | 1, .l => .set1L
  | 1, .a => .set1A
  | 2, .b => .set2B
  | 2, .c => .set2C
  | 2, .d => .set2D
  | 2, .e => .set2E
  | 2, .h => .set2H
  | 2, .l => .set2L
  | 2, .a => .set2A
  | 3, .b => .set3B
  | 3, .c => .set3C
  | 3, .d => .set3D
  | 3, .e => .set3E
  | 3, .h => .set3H
  | 3, .l => .set3L
  | 3, .a => .set3A
  | 4, .b => .set4B
  | 4, .c => .set4C
  | 4, .d => .set4D
  | 4, .e => .set4E
  | 4, .h => .set4H
  | 4, .l => .set4L
  | 4, .a => .set4A
  | 5, .b => .set5B
  | 5, .c => .set5C
  | 5, .d => .set5D
  | 5, .e => .set5E
  | 5, .h => .set5H
  | 5, .l => .set5L
  | 5, .a => .set5A
  | 6, .b => .set6B
  | 6, .c => .set6C
  | 6, .d => .set6D
  | 6, .e => .set6E
  | 6, .h => .set6H
  | 6, .l => .set6L
  | 6, .a => .set6A
  | 7, .b => .set7B
  | 7, .c => .set7C
  | 7, .d => .set7D
  | 7, .e => .set7E
  | 7, .h => .set7H
  | 7, .l => .set7L
  | 7, .a => .set7A

/-- SET b,(HL) (R425). -/
def setAtHl : Fin 8 → Instr
  | 0 => .set0AtHl
  | 1 => .set1AtHl
  | 2 => .set2AtHl
  | 3 => .set3AtHl
  | 4 => .set4AtHl
  | 5 => .set5AtHl
  | 6 => .set6AtHl
  | 7 => .set7AtHl

/-- JP cc (R442). -/
def jpCond : Cond → Word → Instr
  | .nz, a => .jpNz a
  | .z, a => .jpZ a
  | .nc, a => .jpNc a
  | .c, a => .jpC a

/-- JR cc (R445). -/
def jrCond : Cond → Byte → Instr
  | .nz, e => .jrNz e
  | .z, e => .jrZ e
  | .nc, e => .jrNc e
  | .c, e => .jrC e

/-- CALL cc (R447). -/
def callCond : Cond → Word → Instr
  | .nz, a => .callNz a
  | .z, a => .callZ a
  | .nc, a => .callNc a
  | .c, a => .callC a

/-- RET cc (R449). -/
def retCond : Cond → Instr
  | .nz => .retNz
  | .z => .retZ
  | .nc => .retNc
  | .c => .retC

/-- RST t (R451): the target field ttt; the target is 8 × ttt. -/
def rst : Fin 8 → Instr
  | 0 => .rst00
  | 1 => .rst08
  | 2 => .rst10
  | 3 => .rst18
  | 4 => .rst20
  | 5 => .rst28
  | 6 => .rst30
  | 7 => .rst38

/-- The eleven unassigned opcodes of R164, in ascending order. -/
def unassigned : Fin 11 → Instr
  | 0 => .illegalD3
  | 1 => .illegalDB
  | 2 => .illegalDD
  | 3 => .illegalE3
  | 4 => .illegalE4
  | 5 => .illegalEB
  | 6 => .illegalEC
  | 7 => .illegalED
  | 8 => .illegalF4
  | 9 => .illegalFC
  | 10 => .illegalFD

end Instr

end Sys2Proof
end

