-- ==== Sys2Proof/Machine/State.lean ====
section
/-! DEFINITION. The state of the machine as plain data, and its value right after reset.

`Cpu` is the state inventory of 10_state.md section 5, field by field. `Platform` is what stands behind
the parameters `Bus` and `Tick` of 00_scope.md R7 as plain data: the bytes the bus holds, and a script
that says, one record per coming M-cycle, what the timer, the PPU, the APU, the mapper and the register
file do in it (log entries 1 and 2). What the host does between two Steps (R17) stands there as a queue
(log entry 3). -/

namespace Sys2Proof.Machine

/-! ## The core -/

/-- The core's own state (10_state.md section 5). -/
structure Cpu where
  /-- R40. -/
  a : Byte
  /-- R40, R42, R43: bit 7 Z, bit 6 N, bit 5 H, bit 4 C, bits 3..0 always 0. -/
  f : Byte
  /-- R40. -/
  b : Byte
  /-- R40. -/
  c : Byte
  /-- R40. -/
  d : Byte
  /-- R40. -/
  e : Byte
  /-- R40. -/
  h : Byte
  /-- R40. -/
  l : Byte
  /-- R44. -/
  sp : Word
  /-- R45 to R47. -/
  pc : Word
  /-- R48: the interrupt master enable. -/
  ime : Bool
  /-- R49: the one-instruction-delayed enable that EI sets. -/
  imeLatch : Bool
  /-- R50. -/
  halted : Bool
  /-- R51: the next opcode fetch does not advance PC. -/
  haltBug : Bool
  /-- R52. -/
  stopped : Bool
  /-- R53. -/
  locked : Bool
  /-- R54: T-cycles, unbounded. -/
  cycles : Nat
  /-- R55: IE, address 0xFFFF, all 8 bits stored. -/
  ie : Byte
  /-- R56: the stored bits 4..0 of IF, address 0xFF0F. -/
  iflag : BitVec 5
  /-- R57: KEY1 bit 0, address 0xFF4D (CGB). -/
  key1Prepare : Bool
  /-- R57: KEY1 bit 7, the current speed. -/
  key1Speed : Bool
deriving DecidableEq, Repr

/-! ## What stands behind the bus -/

/-- The bytes behind the bus (20_memory.md R100, R103): (address, byte) pairs in the one canonical form
of `Memory.wf`. -/
abbrev Memory := List Host.Cell

/-- What an address that `Memory` does not list reads as. ROM without a cartridge image, the unusable
region and the register window read as open bus (R105, 93 U8); the RAM regions read as 0x00.
DESIGN CHOICE, unsafe (log entry 4): the spec leaves RAM contents after reset to the platform (R582, 93 U10). -/
def Memory.unlisted (a : Nat) : Byte :=
  if a < 0x8000 then Config.openBus
  else if 0xFEA0 ≤ a ∧ a < 0xFF80 then Config.openBus
  else 0x00

/-- The addresses that have a cell of their own: the 16-bit space (R100) without the echo range, which
mirrors work RAM (R103), and without the three bytes the core owns (R106). -/
def Memory.isCell (a : Nat) : Bool :=
  a < 0x10000 && !(0xE000 ≤ a && a < 0xFE00) && a != 0xFF0F && a != 0xFF4D && a != 0xFFFF

/-- The canonical form: addresses strictly rising, each one that has a cell, and no entry equal to what
an unlisted address reads as. Equal memories are then equal lists. -/
abbrev Memory.wf (m : Memory) : Prop :=
  m.Pairwise (fun x y => x.1 < y.1) ∧ ∀ x ∈ m, Memory.isCell x.1 = true ∧ x.2 ≠ Memory.unlisted x.1

/-- The interrupts that a block behind `Tick` or `Bus` raises (R521, R522, R539, R540). Serial, k = 3, is not
among them: no device raises it (R541, 92 D18, 93 U12). The joypad logic is (R522; log entry 2). -/
inductive DeviceInterrupt where
  | vblank
  | lcd
  | timer
  | joypad
deriving DecidableEq, Repr

/-- Something a block behind `Tick` or `Bus` does (R102, R112, R115, R522): the interrupts it raises,
bytes behind the bus it changes, and the mapper's RAM-enable latch (R103) where it changes that. -/
structure Effect where
  raises : List DeviceInterrupt
  writes : List (Word × Byte)
  ramEnable : Option Bool
deriving DecidableEq, Repr

/-- What the platform does in one M-cycle (R11, R102): first its `Tick(4)`, then its part in the access. -/
structure BusCycle where
  /-- What `Tick(4)` does (R102). -/
  tick : Effect
  /-- What `Bus.read` answers in this M-cycle where that is not the stored byte: a hardware register, a
  disabled bank, a cheat (R105, R112, R115). -/
  readAs : Option Byte
  /-- The side effect of an access that goes to the bus (R104, R112, R117). -/
  access : Effect
  /-- Whether the watch hook, offered this access, sets the host's debug flag (R114, R545). -/
  pause : Bool
deriving DecidableEq, Repr

/-- The kind of an access, as the watch hook is told it (R114, 92 D33). -/
inductive AccessKind where
  | read
  | write
deriving DecidableEq, Repr

/-- One M-cycle that has happened (R11): an access with its address and value, or an idle cycle. -/
inductive MCycle where
  | access (addr : Word) (value : Byte) (kind : AccessKind)
  | idle
deriving DecidableEq, Repr

/-- What the host may do between two Steps (R17). -/
inductive HostAction where
  /-- `InputEdge()` (R537); `joypad` says whether the host raises interrupt 4 with it (R541, 92 D19). -/
  | inputEdge (joypad : Bool)
  /-- Reset (R580, R581): power-on, cartridge reset or ROM load, with what it leaves behind the bus,
  which is the platform's (R582). -/
  | reset (model : Model) (boot : Boot) (contents : List (Word × Byte)) (ramEnable : Option Bool)
  /-- Loading a save state (R583): whether its version tag matches, and the core state it holds. -/
  | loadState (versionMatches : Bool) (saved : Cpu)
  /-- A PC match (R545, 92 D33): the host compares PC with a breakpoint and sets its debug flag on a match. -/
  | breakpoint (addr : Word)
  /-- The host sets or clears its own debug flag (R545). -/
  | setDebugging (on : Bool)
deriving DecidableEq, Repr

/-- The platform: what stands behind `Bus` and `Tick`, the watch hook's log, and the host's queue. -/
structure Platform where
  /-- The bytes behind the bus. -/
  mem : Memory
  /-- The mapper's RAM-enable latch (R103, external RAM). -/
  ramEnabled : Bool
  /-- What the platform does in the coming M-cycles, next first; past its end it does nothing. -/
  script : List BusCycle
  /-- The M-cycles so far, newest first. Its accesses are what the watch hook was offered (R114). -/
  trace : List MCycle
  /-- The host's debug-pause flag (R114, R545). The core never reads it. -/
  debugging : Bool
  /-- What the host does before each coming Step, next first; past its end it does nothing. -/
  host : List (List HostAction)
deriving DecidableEq, Repr

/-! ## State, fault, refusal -/

/-- The machine's state. -/
structure State where
  /-- `MODEL` (R3, R7). No Step changes it; a reset may (R580). -/
  model : Model
  cpu : Cpu
  platform : Platform
deriving DecidableEq, Repr

/-- The reasons a step stops with a fault: none. R18: "There is no fault and no refusal inside the core". -/
inductive Fault where
deriving DecidableEq, Repr

/-- The reasons a step is refused. -/
inductive Refusal where
  /-- Raised by an arm of `exec` whose instruction has no meaning yet; no arm of this model raises it.
  Safe: the machine stops where the hardware goes on. -/
  | notModelled (mnemonic : String)
deriving DecidableEq, Repr

/-- What a meaning answers. -/
abbrev Result := Host.Outcome State Fault Refusal

/-! ## Reset -/

/-- The register values that a draw gives (R63, 93 U1, U9); F[3:0] is 0. The other fields are R60's. -/
def Cpu.ofDraw (draw : BootRegs) (pc : Word) (iflag : BitVec 5) : Cpu where
  a := draw.a
  f := draw.flags ++ (0 : BitVec 4)
  b := draw.b
  c := draw.c
  d := draw.d
  e := draw.e
  h := draw.h
  l := draw.l
  sp := draw.sp
  pc := pc
  ime := false
  imeLatch := false
  halted := false
  haltBug := false
  stopped := false
  locked := false
  cycles := 0
  ie := 0x00
  iflag := iflag
  key1Prepare := false
  key1Speed := false

/-- The values the DMG boot ROM leaves (R61). -/
def BootRegs.dmg : BootRegs where
  a := 0x01
  flags := 0xB
  b := 0x00
  c := 0x13
  d := 0x00
  e := 0xD8
  h := 0x01
  l := 0x4D
  sp := 0xFFFE

/-- The values the CGB boot ROM leaves for a CGB-mode cartridge (R62). -/
def BootRegs.cgb : BootRegs where
  a := 0x11
  flags := 0x8
  b := 0x00
  c := 0x00
  d := 0xFF
  e := 0x56
  h := 0x00
  l := 0x0D
  sp := 0xFFFE

/-- The core right after reset (R60 to R63, R581), for every `MODEL` and boot choice. -/
def Cpu.afterReset (model : Model) (boot : Boot) : Cpu :=
  match model, boot with
  | _, .bootRom draw => Cpu.ofDraw draw Config.bootRomEntry 0x00
  | .dmg, _ => Cpu.ofDraw BootRegs.dmg Config.entryPoint 0x01
  | .cgb, .skipped => Cpu.ofDraw BootRegs.cgb Config.entryPoint 0x01
  | .cgb, .skippedCompat draw => Cpu.ofDraw draw Config.entryPoint 0x01

/-- The one platform that `State.reset` takes: nothing listed and nothing to come (log entries 4 to 6). -/
def Platform.powerOn : Platform where
  mem := []
  ramEnabled := false
  script := []
  trace := []
  debugging := false
  host := []

/-- The machine right after a reset (R580, R581), for a `MODEL`, a boot choice and a platform. What a reset leaves
behind the bus is the platform's (R582): RAM contents are a draw (93 U10), so `platform` is an argument. -/
def State.powerOn (model : Model) (boot : Boot) (platform : Platform) : State where
  model := model
  cpu := Cpu.afterReset model boot
  platform := platform

/-- The machine right after reset: a DMG whose boot was skipped (R60, R61). `MODEL` and `BOOT_ROM` are
open parameters (92 D13, D32) and the platform is a draw (R582); which of each this one constant takes is a DESIGN
CHOICE (log entries 4 to 7). -/
def State.reset : State := State.powerOn .dmg .skipped Platform.powerOn

end Sys2Proof.Machine
end

