-- ==== Sys2Proof/Machine/Memory.lean ====
section
/-! DEFINITION. Reading and writing the bytes behind the bus, in canonical form, and the address map
(20_memory.md R100 to R106). -/

namespace Sys2Proof.Machine

/-! ## The canonical list of cells -/

/-- The byte at a cell. -/
def Memory.byteAt : Memory → Nat → Byte
  | [], a => Memory.unlisted a
  | (k, v) :: m, a => if k = a then v else Memory.byteAt m a

/-- The list with the entry of `a`, if there is one, taken out. -/
def Memory.erase : Memory → Nat → Memory
  | [], _ => []
  | (k, v) :: m, a => if k = a then m else (k, v) :: Memory.erase m a

/-- The list with the entry `(a, v)` at its place. -/
def Memory.insert : Memory → Nat → Byte → Memory
  | [], a, v => [(a, v)]
  | (k, w) :: m, a, v =>
    if a < k then (a, v) :: (k, w) :: m
    else if k = a then (a, v) :: m
    else (k, w) :: Memory.insert m a v

/-- `m` with the byte `v` at cell `a`, in canonical form. -/
def Memory.store (m : Memory) (a : Nat) (v : Byte) : Memory :=
  if v = Memory.unlisted a then m.erase a else m.insert a v

/-! ## The address map -/

/-- The regions of R103. -/
inductive Region where
  | romBank0
  | romBankN
  | videoRam
  | externalRam
  | workRam
  | echoRam
  | oam
  | unusable
  | registerFile
  | interruptFlag
  | speedSwitch
  | highRam
  | interruptEnable
deriving DecidableEq, Repr

/-- The region of an address (R103, R106). -/
def regionOf (a : Word) : Region :=
  if a < 0x4000 then .romBank0
  else if a < 0x8000 then .romBankN
  else if a < 0xA000 then .videoRam
  else if a < 0xC000 then .externalRam
  else if a < 0xE000 then .workRam
  else if a < 0xFE00 then .echoRam
  else if a < 0xFEA0 then .oam
  else if a < 0xFF00 then .unusable
  else if a = 0xFF0F then .interruptFlag
  else if a = 0xFF4D then .speedSwitch
  else if a < 0xFF80 then .registerFile
  else if a < 0xFFFF then .highRam
  else .interruptEnable

/-- Whether the core owns the byte at the address (R106). -/
def Region.coreOwned : Region → Bool
  | .interruptFlag | .speedSwitch | .interruptEnable => true
  | _ => false

/-- The cell an address of the bus reaches: echo RAM mirrors 0xC000 to 0xDDFF (R103). -/
def cellOf (a : Word) : Nat :=
  if regionOf a = .echoRam then a.toNat - 0x2000 else a.toNat

/-- The platform places a byte behind the bus, in any region but the core's own three bytes (R102, R106). -/
def Memory.poke (m : Memory) (w : Word × Byte) : Memory :=
  if (regionOf w.1).coreOwned then m else m.store (cellOf w.1) w.2

/-- The platform places several bytes, in order. -/
def Memory.pokeAll (m : Memory) (ws : List (Word × Byte)) : Memory := ws.foldl Memory.poke m

end Sys2Proof.Machine
end

