-- ==== Sys2Proof/Machine/Flags.lean ====
section
/-! DEFINITION. The flag register and every flag computation of the instruction set: the ALU functions of
43_alu8.md, the 16-bit additions of 44_alu16.md and 42_load16_stack.md R253, the rotates and shifts of
45_rotate_shift.md, BIT of 46_bit.md and DAA of 48_misc_system.md. Sums and differences are computed exactly
in Nat or Int and narrowed at the end (R9). -/

namespace Sys2Proof.Machine

/-! ## The flag register -/

/-- F from the four flags, F[3:0] = 0 (R42, R43). -/
def packFlags (z n h c : Bool) : Byte :=
  BitVec.ofBool z ++ BitVec.ofBool n ++ BitVec.ofBool h ++ BitVec.ofBool c ++ (0 : BitVec 4)

/-- Z, bit 7 of F (R42). -/
def Cpu.flagZ (c : Cpu) : Bool := c.f.getLsbD 7

/-- N, bit 6 of F (R42). -/
def Cpu.flagN (c : Cpu) : Bool := c.f.getLsbD 6

/-- H, bit 5 of F (R42). -/
def Cpu.flagH (c : Cpu) : Bool := c.f.getLsbD 5

/-- C, bit 4 of F (R42). -/
def Cpu.flagC (c : Cpu) : Bool := c.f.getLsbD 4

/-- A write of all of F: it stores `v & 0xF0` (R43). -/
def Cpu.setF (c : Cpu) (v : Byte) : Cpu := { c with f := v &&& 0xF0 }

/-- A write of the four flags (R14, R43). -/
def Cpu.setFlags (c : Cpu) (z n h cy : Bool) : Cpu := { c with f := packFlags z n h cy }

/-! ## 8-bit functions -/

/-- What an 8-bit function gives: its result byte and the four flags after it. -/
structure Out8 where
  value : Byte
  z : Bool
  n : Bool
  h : Bool
  c : Bool
deriving DecidableEq, Repr

/-- ADC8 (R304); with the carry 0 it is ADD8 (R301). -/
def adc8 (a v : Byte) (cin : Bool) : Out8 :=
  let r := a.toNat + v.toNat + cin.toNat
  { value := BitVec.ofNat 8 r
    z := decide (r % 256 = 0)
    n := false
    h := decide (a.toNat % 16 + v.toNat % 16 + cin.toNat > 0xF)
    c := decide (r > 0xFF) }

/-- ADD8 (R301). -/
def add8 (a v : Byte) : Out8 := adc8 a v false

/-- SBC8 (R310); with the carry 0 it is SUB8 (R307). -/
def sbc8 (a v : Byte) (cin : Bool) : Out8 :=
  let r : Int := (a.toNat : Int) - v.toNat - cin.toNat
  { value := BitVec.ofInt 8 r
    z := decide (r % 256 = 0)
    n := true
    h := decide (a.toNat % 16 < v.toNat % 16 + cin.toNat)
    c := decide (a.toNat < v.toNat + cin.toNat) }

/-- SUB8 (R307). -/
def sub8 (a v : Byte) : Out8 := sbc8 a v false

/-- AND8 (R313). -/
def and8 (a v : Byte) : Out8 :=
  { value := a &&& v, z := a &&& v == 0, n := false, h := true, c := false }

/-- XOR8 (R316). -/
def xor8 (a v : Byte) : Out8 :=
  { value := a ^^^ v, z := a ^^^ v == 0, n := false, h := false, c := false }

/-- OR8 (R319). -/
def or8 (a v : Byte) : Out8 :=
  { value := a ||| v, z := a ||| v == 0, n := false, h := false, c := false }

/-- CP8 (R322): the flags of SUB8, A as it was. -/
def cp8 (a v : Byte) : Out8 := { sub8 a v with value := a }

/-- The function of an ALU operation (R156, R300): A, the operand, the carry before. -/
def aluOut : AluOp → Byte → Byte → Bool → Out8
  | .add, a, v, _ => add8 a v
  | .adc, a, v, cin => adc8 a v cin
  | .sub, a, v, _ => sub8 a v
  | .sbc, a, v, cin => sbc8 a v cin
  | .and, a, v, _ => and8 a v
  | .xor, a, v, _ => xor8 a v
  | .or, a, v, _ => or8 a v
  | .cp, a, v, _ => cp8 a v

/-- INC8 (R325): C is the C before. -/
def inc8 (v : Byte) (cin : Bool) : Out8 :=
  { value := v + 1, z := v + 1 == 0, n := false, h := decide (v.toNat % 16 = 0xF), c := cin }

/-- DEC8 (R327): C is the C before. -/
def dec8 (v : Byte) (cin : Bool) : Out8 :=
  { value := v - 1, z := v - 1 == 0, n := true, h := decide (v.toNat % 16 = 0), c := cin }

/-- The result byte and the carry out of a rotate, shift or SWAP (R381 to R400). -/
def shiftCore : ShiftOp → Byte → Bool → Byte × Bool
  | .rlc, v, _ => (v <<< 1 ||| (BitVec.ofBool (v.getLsbD 7)).setWidth 8, v.getLsbD 7)
  | .rrc, v, _ => (v >>> 1 ||| (BitVec.ofBool (v.getLsbD 0)).setWidth 8 <<< 7, v.getLsbD 0)
  | .rl, v, cin => (v <<< 1 ||| (BitVec.ofBool cin).setWidth 8, v.getLsbD 7)
  | .rr, v, cin => (v >>> 1 ||| (BitVec.ofBool cin).setWidth 8 <<< 7, v.getLsbD 0)
  | .sla, v, _ => (v <<< 1, v.getLsbD 7)
  | .sra, v, _ => (v >>> 1 ||| v &&& 0x80, v.getLsbD 0)
  | .swap, v, _ => (v <<< 4 ||| v >>> 4, false)
  | .srl, v, _ => (v >>> 1, v.getLsbD 0)

/-- A CB rotate, shift or SWAP (R380): Z from the result, N = H = 0. -/
def shift8 (op : ShiftOp) (v : Byte) (cin : Bool) : Out8 :=
  let r := shiftCore op v cin
  { value := r.1, z := r.1 == 0, n := false, h := false, c := r.2 }

/-- A rotate of A (R381 to R384): as the CB form, but Z is cleared. -/
def rotateA8 (op : ShiftOp) (a : Byte) (cin : Bool) : Out8 := { shift8 op a cin with z := false }

/-- `1 << b` as a byte. -/
def bitMask (b : Fin 8) : Byte := (1 : Byte) <<< b.val

/-- RES (R422): `v & ~(1 << b)`. -/
def resetBit (b : Fin 8) (v : Byte) : Byte := v &&& ~~~ bitMask b

/-- SET (R424): `v | (1 << b)`. -/
def setBit (b : Fin 8) (v : Byte) : Byte := v ||| bitMask b

/-- BIT (R420): Z is the complement of bit b, N = 0, H = 1, C as it was. -/
def Cpu.testBit (c : Cpu) (b : Fin 8) (v : Byte) : Cpu :=
  c.setFlags (!v.getLsbD b.val) false true c.flagC

/-- DAA (R481): A and the flags N, H, C left by the operation before. In the N = 0 branch the second test
reads A after the first adjustment (92 D24). -/
def daa8 (a : Byte) (n h c : Bool) : Out8 :=
  if n = false then
    let high := c || decide (a.toNat > 0x99)
    let a1 := if high then a + 0x60 else a
    let a2 := if h || decide (a1.toNat % 16 > 9) then a1 + 0x06 else a1
    { value := a2, z := a2 == 0, n := n, h := false, c := high }
  else
    let a1 := if c then a - 0x60 else a
    let a2 := if h then a1 - 0x06 else a1
    { value := a2, z := a2 == 0, n := n, h := false, c := c }

/-! ## 16-bit functions -/

/-- H of ADD HL,rr (R350): the carry out of bit 11. -/
def addHlHalf (hl v : Word) : Bool := decide (hl.toNat % 0x1000 + v.toNat % 0x1000 > 0xFFF)

/-- C of ADD HL,rr (R350): the carry out of bit 15. -/
def addHlCarry (hl v : Word) : Bool := decide (hl.toNat + v.toNat > 0xFFFF)

/-- H of ADD SP,e8 and LD HL,SP+e8 (R253, R353): an unsigned addition of the low nibbles. -/
def spOffsetHalf (sp : Word) (e : Byte) : Bool := decide (sp.toNat % 16 + e.toNat % 16 > 0xF)

/-- C of ADD SP,e8 and LD HL,SP+e8 (R253, R353): an unsigned addition of the low bytes. -/
def spOffsetCarry (sp : Word) (e : Byte) : Bool := decide (sp.toNat % 256 + e.toNat > 0xFF)

end Sys2Proof.Machine
end

