-- ==== Sys2Proof/Machine/Operands.lean ====
section
/-! DEFINITION. The operand forms: 8-bit registers, register pairs, the two `pp` variants, and conditions
(00_scope.md R10; 10_state.md R40, R41; 30_encoding.md R152 to R155). -/

namespace Sys2Proof.Machine

/-- `x[r]` for an 8-bit register field (R152). -/
def Cpu.r8 (c : Cpu) : Reg8 → Byte
  | .b => c.b
  | .c => c.c
  | .d => c.d
  | .e => c.e
  | .h => c.h
  | .l => c.l
  | .a => c.a

/-- `x[r] <- v` for an 8-bit register field (R152). -/
def Cpu.setR8 (c : Cpu) (r : Reg8) (v : Byte) : Cpu :=
  match r with
  | .b => { c with b := v }
  | .c => { c with c := v }
  | .d => { c with d := v }
  | .e => { c with e := v }
  | .h => { c with h := v }
  | .l => { c with l := v }
  | .a => { c with a := v }

/-- BC = B:C (R41). -/
def Cpu.bc (c : Cpu) : Word := wordOf c.b c.c

/-- DE = D:E (R41). -/
def Cpu.de (c : Cpu) : Word := wordOf c.d c.e

/-- HL = H:L (R41). -/
def Cpu.hl (c : Cpu) : Word := wordOf c.h c.l

/-- AF = A:F (R41). -/
def Cpu.af (c : Cpu) : Word := wordOf c.a c.f

/-- A write of BC writes both halves (R41). -/
def Cpu.setBc (c : Cpu) (v : Word) : Cpu := { c with b := hiByte v, c := loByte v }

/-- A write of DE writes both halves (R41). -/
def Cpu.setDe (c : Cpu) (v : Word) : Cpu := { c with d := hiByte v, e := loByte v }

/-- A write of HL writes both halves (R41). -/
def Cpu.setHl (c : Cpu) (v : Word) : Cpu := { c with h := hiByte v, l := loByte v }

/-- A write of AF writes both halves and forces F[3:0] to 0 (R10, R43). -/
def Cpu.setAf (c : Cpu) (v : Word) : Cpu := { c with a := hiByte v }.setF (loByte v)

/-- `x[rr]` for the SP variant of `pp` (R153). -/
def Cpu.pair (c : Cpu) : Pair → Word
  | .bc => c.bc
  | .de => c.de
  | .hl => c.hl
  | .sp => c.sp

/-- `x[rr] <- v` for the SP variant of `pp` (R153). -/
def Cpu.setPair (c : Cpu) (p : Pair) (v : Word) : Cpu :=
  match p with
  | .bc => c.setBc v
  | .de => c.setDe v
  | .hl => c.setHl v
  | .sp => { c with sp := v }

/-- `x[rr]` for the AF variant of `pp` (R154). -/
def Cpu.stackPair (c : Cpu) : StackPair → Word
  | .bc => c.bc
  | .de => c.de
  | .hl => c.hl
  | .af => c.af

/-- `x[rr] <- v` for the AF variant of `pp` (R154, R256). -/
def Cpu.setStackPair (c : Cpu) (p : StackPair) (v : Word) : Cpu :=
  match p with
  | .bc => c.setBc v
  | .de => c.setDe v
  | .hl => c.setHl v
  | .af => c.setAf v

/-- `cond(cc)` (R155), evaluated on F at the moment of the test. -/
def Cpu.cond (c : Cpu) : Cond → Bool
  | .nz => !c.flagZ
  | .z => c.flagZ
  | .nc => !c.flagC
  | .c => c.flagC

/-- The flags of an 8-bit function. -/
def Cpu.putFlags (c : Cpu) (o : Out8) : Cpu := c.setFlags o.z o.n o.h o.c

/-- The result of an 8-bit function in a register, with its flags. -/
def Cpu.putR8 (c : Cpu) (r : Reg8) (o : Out8) : Cpu := (c.setR8 r o.value).putFlags o

/-- An ALU operation on A and an operand (R300). -/
def Cpu.alu (c : Cpu) (op : AluOp) (v : Byte) : Cpu := c.putR8 .a (aluOut op c.a v c.flagC)

/-- The pending set `IE & IF & 0x1F` (R523): IE[7:5] takes no part. -/
def Cpu.pending (c : Cpu) : BitVec 5 := c.ie.setWidth 5 &&& c.iflag

end Sys2Proof.Machine
end

