-- ==== Sys2Proof/Machine/Ops.lean ====
section
/-! DEFINITION. The named operations over the bus, the stack and the clock (00_scope.md R11 to R13,
20_memory.md), taking an interrupt as one shared operation (60_exceptions.md R526), and the return from it
(47_control.md R450). -/

namespace Sys2Proof.Machine

/-- The same machine with its core changed by `f`. -/
def State.onCpu (s : State) (f : Cpu → Cpu) : State := { s with cpu := f s.cpu }

/-- `PC <- v`. -/
def State.setPc (s : State) (v : Word) : State := s.onCpu fun c => { c with pc := v }

/-- `SP <- v`. -/
def State.setSp (s : State) (v : Word) : State := s.onCpu fun c => { c with sp := v }

/-! ## The platform -/

/-- A block that does nothing. -/
def Effect.none : Effect where
  raises := []
  writes := []
  ramEnable := Option.none

/-- An M-cycle in which the platform does nothing but hold its bytes. -/
def BusCycle.quiet : BusCycle where
  tick := Effect.none
  readAs := none
  access := Effect.none
  pause := false

/-- What the platform does in the coming M-cycle. -/
def State.cycleNow (s : State) : BusCycle := s.platform.script.head?.getD BusCycle.quiet

/-- `RequestInterrupt(k)` (R522): sets IF bit k and nothing else. -/
def State.requestInterrupt (s : State) (k : Fin 5) : State :=
  s.onCpu fun c => { c with iflag := c.iflag ||| (1 : BitVec 5) <<< k.val }

/-- The number k of an interrupt that a block raises (R521). -/
def DeviceInterrupt.number : DeviceInterrupt → Fin 5
  | .vblank => 0
  | .lcd => 1
  | .timer => 2
  | .joypad => 4

/-- The IF bits that the requests of an effect set (R522). -/
def Effect.requests (e : Effect) : BitVec 5 :=
  e.raises.foldr (fun d bits => (1 : BitVec 5) <<< d.number.val ||| bits) 0

/-- A block's effect (R102, R522): it may set IF bits and change what stands behind the bus, and it changes
no other part of the core. -/
def State.applyEffect (s : State) (e : Effect) : State :=
  { s with
    cpu := { s.cpu with iflag := s.cpu.iflag ||| e.requests }
    platform := { s.platform with
      mem := s.platform.mem.pokeAll e.writes
      ramEnabled := e.ramEnable.getD s.platform.ramEnabled } }

/-- `Tick(4)` (R11, R54, R102): 4 T-cycles pass, and the platform does its part of the M-cycle. -/
def State.tick (s : State) : State :=
  ({ s with
      cpu := { s.cpu with cycles := s.cpu.cycles + Config.tCyclesPerMCycle }
      platform := { s.platform with script := s.platform.script.tail } }).applyEffect s.cycleNow.tick

/-- One M-cycle is over: it is noted, and an access is offered to the watch hook (R114), which may set the
host's debug flag and nothing else. -/
def State.note (s : State) (m : MCycle) (pause : Bool) : State :=
  { s with platform := { s.platform with
      trace := m :: s.platform.trace
      debugging := s.platform.debugging || pause } }

/-- `Idle()` (R11): an internal M-cycle, not offered to the hook. -/
def State.idle (s : State) : State := s.tick.note .idle false

/-! ## The bytes of the address space -/

/-- A read of KEY1 (R57): on a DMG the register does not exist and reads as open bus. -/
def State.key1 (s : State) : Byte :=
  match s.model with
  | .cgb => BitVec.ofBool s.cpu.key1Speed ++ (0x3F : BitVec 6) ++ BitVec.ofBool s.cpu.key1Prepare
  | .dmg => Config.openBus

/-- A read of IF (R56): `0xE0 | IF[4:0]`. -/
def State.readIf (s : State) : Byte := (0x7 : BitVec 3) ++ s.cpu.iflag

/-- The byte that stands at an address: the core's own byte (R106), or what the bus holds there. External
RAM whose latch is off reads 0xFF (R103). -/
def State.peek (s : State) (a : Word) : Byte :=
  match regionOf a with
  | .interruptEnable => s.cpu.ie
  | .interruptFlag => s.readIf
  | .speedSwitch => s.key1
  | .externalRam => if s.platform.ramEnabled then s.platform.mem.byteAt (cellOf a) else Config.openBus
  | _ => s.platform.mem.byteAt (cellOf a)

/-- `m` with `v` at a cell of the bus. -/
def State.storeCell (s : State) (a : Word) (v : Byte) : State :=
  { s with platform := { s.platform with mem := s.platform.mem.store (cellOf a) v } }

/-- What a write of `v` at `a` does of itself (R55 to R57, R103 to R106): the core's own bytes by their write
rules; RAM regions store; ROM space, the unusable region, the register file and disabled external RAM do not. -/
def State.put (s : State) (a : Word) (v : Byte) : State :=
  match regionOf a with
  | .interruptEnable => s.onCpu fun c => { c with ie := v }
  | .interruptFlag => s.onCpu fun c => { c with iflag := v.setWidth 5 }
  | .speedSwitch =>
    match s.model with
    | .cgb => s.onCpu fun c => { c with key1Prepare := v.getLsbD 0 }
    | .dmg => s
  | .externalRam => if s.platform.ramEnabled then s.storeCell a v else s
  | .romBank0 | .romBankN | .unusable | .registerFile => s
  | .videoRam | .workRam | .echoRam | .oam | .highRam => s.storeCell a v

/-- The platform's side effect of an access at `a`: none where the core owns the byte (R106, R112). -/
def State.accessEffect (s : State) (a : Word) (e : Effect) : State :=
  if (regionOf a).coreOwned then s else s.applyEffect e

/-! ## The memory primitives -/

/-- The byte that `MemRead(a, 1)` returns (R11): what stands at `a` after the M-cycle's `Tick`, or what the
bus answers in its place (R105, R112, R115). -/
def State.read (s : State) (a : Word) : Byte :=
  if (regionOf a).coreOwned then s.tick.peek a else s.cycleNow.readAs.getD (s.tick.peek a)

/-- The machine after `MemRead(a, 1)` (R11). -/
def State.afterRead (s : State) (a : Word) : State :=
  (s.tick.accessEffect a s.cycleNow.access).note (.access a (s.read a) .read) s.cycleNow.pause

/-- The machine after `MemWrite(a, 1, v)` (R11): `Tick(4)`, then the write. -/
def State.write (s : State) (a : Word) (v : Byte) : State :=
  ((s.tick.put a v).accessEffect a s.cycleNow.access).note (.access a v .write) s.cycleNow.pause

/-- `Fetch8()` (R12): the byte and the machine after it. -/
def State.fetch8 (s : State) : Byte × State :=
  (s.read s.cpu.pc, (s.afterRead s.cpu.pc).setPc (s.cpu.pc + 1))

/-- `Fetch16()` (R12): low byte first. -/
def State.fetch16 (s : State) : Word × State :=
  let lo := s.fetch8
  let hi := lo.2.fetch8
  (wordOf hi.1 lo.1, hi.2)

/-- Half of `Push16` (R12): SP goes down by one, then the byte is written at SP. -/
def State.push8 (s : State) (v : Byte) : State := (s.setSp (s.cpu.sp - 1)).write (s.cpu.sp - 1) v

/-- `Push16(v)` (R12): high byte at SP-1, then low byte at SP-2. -/
def State.push16 (s : State) (v : Word) : State := (s.push8 (hiByte v)).push8 (loByte v)

/-- Half of `Pop16` (R12): the byte at SP is read, then SP goes up by one. -/
def State.pop8 (s : State) : Byte × State := (s.read s.cpu.sp, (s.afterRead s.cpu.sp).setSp (s.cpu.sp + 1))

/-- `Pop16()` (R12): low byte first. -/
def State.pop16 (s : State) : Word × State :=
  let lo := s.pop8
  let hi := lo.2.pop8
  (wordOf hi.1 lo.1, hi.2)

/-! ## Taking an interrupt, and returning from it -/

/-- The interrupt that is taken: the lowest k whose bit is set (R525). -/
def lowestPending (p : BitVec 5) : Fin 5 :=
  if p.getLsbD 0 then 0
  else if p.getLsbD 1 then 1
  else if p.getLsbD 2 then 2
  else if p.getLsbD 3 then 3
  else 4

/-- `0x0040 + 8 × k` (R521). -/
def vectorOf (k : Fin 5) : Word := Config.interruptVectorBase + BitVec.ofNat 16 (8 * k.val)

/-- The return address of a dispatch: PC, or PC - 1 when the halt bug is pending (R526, R528). -/
def Cpu.returnAddress (c : Cpu) : Word := if c.haltBug then c.pc - 1 else c.pc

/-- What a dispatch of k changes at the boundary, before its first cycle (R526). -/
def Cpu.acknowledge (c : Cpu) (k : Fin 5) : Cpu :=
  { c with
    ime := false
    imeLatch := false
    iflag := c.iflag &&& ~~~ ((1 : BitVec 5) <<< k.val)
    haltBug := false }

/-- Dispatch of the lowest pending interrupt (R525 to R530): k is chosen, IME, the latch, IF bit k and
halt_bug are cleared, then the five M-cycles Idle, Idle, write high, write low, Idle with the jump. -/
def State.takeInterrupt (s : State) : State :=
  let k := lowestPending s.cpu.pending
  ((s.onCpu (·.acknowledge k)).idle.idle.push16 s.cpu.returnAddress).idle.setPc (vectorOf k)

/-- The return from a handler that RETI makes (R450, R531): PC from the stack, then IME = 1. -/
def State.returnFromInterrupt (s : State) : State :=
  let a := s.pop16
  (a.2.idle.setPc a.1).onCpu fun c => { c with ime := true }

/-! ## Conventions of the step that are not bus cycles -/

/-- `Lock()` (R13, R490). -/
def State.lock (s : State) : State := s.onCpu fun c => { c with locked := true }

end Sys2Proof.Machine
end

