-- ==== Sys2Proof/Machine/Boundary.lean ====
section
/-! DEFINITION. What happens at a step boundary: the host's turn (00_scope.md R17), then steps L, S, H and D
of the step algorithm (70_reset_and_hazards.md R585), and the EI promotion that ends an instruction (R586). -/

namespace Sys2Proof.Machine

/-! ## The host's turn -/

/-- One action of the host (R17). Reset sets every piece of core state (R581) and takes no cycle (R583); what
it leaves behind the bus is the platform's (R582). A save state whose version tag does not match changes
nothing (R583, 93 U16). -/
def State.hostAct (s : State) : HostAction → State
  | .inputEdge joypad =>
    let woken := s.onCpu fun c => { c with stopped := false }
    if joypad then woken.requestInterrupt 4 else woken
  | .reset model boot contents ramEnable =>
    State.powerOn model boot { s.platform with
      mem := s.platform.mem.pokeAll contents
      ramEnabled := ramEnable.getD s.platform.ramEnabled }
  | .loadState versionMatches saved => if versionMatches then { s with cpu := saved } else s
  | .breakpoint addr =>
    if s.cpu.pc = addr then { s with platform := { s.platform with debugging := true } } else s
  | .setDebugging on => { s with platform := { s.platform with debugging := on } }

/-- What the host does before this Step: the head of its queue, in order; past the queue's end, nothing. -/
def State.hostTurn (s : State) : State :=
  match s.platform.host with
  | [] => s
  | turn :: later => turn.foldl State.hostAct { s with platform := { s.platform with host := later } }

/-! ## Steps L, S, H and D (R585) -/

/-- What a step boundary comes to. -/
inductive Boundary where
  /-- The Step ends here: a locked idle, nothing at all, a halted idle, or a dispatch. -/
  | finished (s : State)
  /-- One instruction runs. -/
  | run (s : State)

/-- The wake from HALT costs no cycle (R536, 92 D30). -/
def State.wake (s : State) : State := s.onCpu fun c => { c with halted := false }

/-- Steps L, S, H and D of R585, in order. The tests read IE and IF without a bus access (R523). -/
def State.boundary (s : State) : Boundary :=
  if s.cpu.locked then .finished s.idle
  else if s.cpu.stopped then .finished s
  else if s.cpu.halted ∧ s.cpu.pending = 0 then .finished s.idle
  else if s.cpu.ime ∧ s.cpu.pending ≠ 0 then .finished s.wake.takeInterrupt
  else .run s.wake

/-! ## The end of an instruction (R586) -/

/-- Step E3: IME <- 1 and the latch <- 0, if the latch was 1 when the instruction began and still is. -/
def State.promote (s : State) (latchBefore : Bool) : State :=
  if latchBefore ∧ s.cpu.imeLatch then s.onCpu fun c => { c with ime := true, imeLatch := false } else s

/-- Step E3 on what a meaning answers. -/
def endInstruction (latchBefore : Bool) : Result → Result
  | .next t => .next (t.promote latchBefore)
  | .fault f => .fault f
  | .refused r => .refused r

end Sys2Proof.Machine
end

