-- ==== Sys2Proof/Machine/Alu16.lean ====
section
/-! DEFINITION. The meanings of 16-bit arithmetic (44_alu16.md R350 to R353). -/

namespace Sys2Proof.Machine

/-- ADD HL,rr (R350): Z is not written. -/
def addToHl (p : Pair) (s : State) : Result :=
  .next (s.onCpu fun c =>
    (c.setHl (c.hl + c.pair p)).setFlags c.flagZ false (addHlHalf c.hl (c.pair p)) (addHlCarry c.hl (c.pair p))).idle

/-- INC rr and DEC rr (R351, R352): no flag changes. -/
def stepPair (p : Pair) (step : Word) (s : State) : Result :=
  .next (s.onCpu fun c => c.setPair p (c.pair p + step)).idle

/-- ADD SP,e8 (R353): Z and N are cleared, H and C come from the unsigned low byte. -/
def addToSp (e : Byte) (s : State) : Result :=
  .next (s.onCpu fun c =>
    { c with sp := c.sp + sext16 e }.setFlags false false (spOffsetHalf c.sp e) (spOffsetCarry c.sp e)).idle.idle

/-- INC BC (R351). -/
def execIncBc (s : State) : Result := stepPair .bc 1 s

/-- ADD HL,BC (R350). -/
def execAddHlBc (s : State) : Result := addToHl .bc s

/-- DEC BC (R352). -/
def execDecBc (s : State) : Result := stepPair .bc (-1) s

/-- INC DE (R351). -/
def execIncDe (s : State) : Result := stepPair .de 1 s

/-- ADD HL,DE (R350). -/
def execAddHlDe (s : State) : Result := addToHl .de s

/-- DEC DE (R352). -/
def execDecDe (s : State) : Result := stepPair .de (-1) s

/-- INC HL (R351). -/
def execIncHl (s : State) : Result := stepPair .hl 1 s

/-- ADD HL,HL (R350). -/
def execAddHlHl (s : State) : Result := addToHl .hl s

/-- DEC HL (R352). -/
def execDecHl (s : State) : Result := stepPair .hl (-1) s

/-- INC SP (R351). -/
def execIncSp (s : State) : Result := stepPair .sp 1 s

/-- ADD HL,SP (R350). -/
def execAddHlSp (s : State) : Result := addToHl .sp s

/-- DEC SP (R352). -/
def execDecSp (s : State) : Result := stepPair .sp (-1) s

/-- ADD SP,e8 (R353). -/
def execAddSpImm (e : Byte) (s : State) : Result := addToSp e s

end Sys2Proof.Machine
end

