-- ==== Sys2Proof/Machine/Alu8.lean ====
section
/-! DEFINITION. The meanings of 8-bit arithmetic and logic (43_alu8.md R300 to R328). -/

namespace Sys2Proof.Machine

/-- The register form of an ALU operation (R300). -/
def aluRegister (op : AluOp) (r : Reg8) (s : State) : Result := .next (s.onCpu fun c => c.alu op (c.r8 r))

/-- The memory form of an ALU operation (R300): one read, no write. -/
def aluMemory (op : AluOp) (s : State) : Result :=
  .next ((s.afterRead s.cpu.hl).onCpu fun c => c.alu op (s.read s.cpu.hl))

/-- The immediate form of an ALU operation (R300). -/
def aluImmediate (op : AluOp) (v : Byte) (s : State) : Result := .next (s.onCpu fun c => c.alu op v)

/-- INC r (R325). -/
def incRegister (r : Reg8) (s : State) : Result := .next (s.onCpu fun c => c.putR8 r (inc8 (c.r8 r) c.flagC))

/-- DEC r (R327). -/
def decRegister (r : Reg8) (s : State) : Result := .next (s.onCpu fun c => c.putR8 r (dec8 (c.r8 r) c.flagC))

/-- A function of the byte at HL and the C flag, written back to HL with its flags: a read in one M-cycle and
a write in a later one (R113, R326, R328). -/
def updateMemory (f : Byte → Bool → Out8) (s : State) : Result :=
  let out := f (s.read s.cpu.hl) s.cpu.flagC
  .next (((s.afterRead s.cpu.hl).onCpu fun c => c.putFlags out).write s.cpu.hl out.value)

/-- INC B (R325). -/
def execIncB (s : State) : Result := incRegister .b s

/-- DEC B (R327). -/
def execDecB (s : State) : Result := decRegister .b s

/-- INC C (R325). -/
def execIncC (s : State) : Result := incRegister .c s

/-- DEC C (R327). -/
def execDecC (s : State) : Result := decRegister .c s

/-- INC D (R325). -/
def execIncD (s : State) : Result := incRegister .d s

/-- DEC D (R327). -/
def execDecD (s : State) : Result := decRegister .d s

/-- INC E (R325). -/
def execIncE (s : State) : Result := incRegister .e s

/-- DEC E (R327). -/
def execDecE (s : State) : Result := decRegister .e s

/-- INC H (R325). -/
def execIncH (s : State) : Result := incRegister .h s

/-- DEC H (R327). -/
def execDecH (s : State) : Result := decRegister .h s

/-- INC L (R325). -/
def execIncL (s : State) : Result := incRegister .l s

/-- DEC L (R327). -/
def execDecL (s : State) : Result := decRegister .l s

/-- INC (HL) (R326). -/
def execIncAtHl (s : State) : Result := updateMemory inc8 s

/-- DEC (HL) (R328). -/
def execDecAtHl (s : State) : Result := updateMemory dec8 s

/-- INC A (R325). -/
def execIncA (s : State) : Result := incRegister .a s

/-- DEC A (R327). -/
def execDecA (s : State) : Result := decRegister .a s

/-- ADD A,B (R301). -/
def execAddAB (s : State) : Result := aluRegister .add .b s

/-- ADD A,C (R301). -/
def execAddAC (s : State) : Result := aluRegister .add .c s

/-- ADD A,D (R301). -/
def execAddAD (s : State) : Result := aluRegister .add .d s

/-- ADD A,E (R301). -/
def execAddAE (s : State) : Result := aluRegister .add .e s

/-- ADD A,H (R301). -/
def execAddAH (s : State) : Result := aluRegister .add .h s

/-- ADD A,L (R301). -/
def execAddAL (s : State) : Result := aluRegister .add .l s

/-- ADD A,(HL) (R302). -/
def execAddAAtHl (s : State) : Result := aluMemory .add s

/-- ADD A,A (R301). -/
def execAddAA (s : State) : Result := aluRegister .add .a s

/-- ADC A,B (R304). -/
def execAdcAB (s : State) : Result := aluRegister .adc .b s

/-- ADC A,C (R304). -/
def execAdcAC (s : State) : Result := aluRegister .adc .c s

/-- ADC A,D (R304). -/
def execAdcAD (s : State) : Result := aluRegister .adc .d s

/-- ADC A,E (R304). -/
def execAdcAE (s : State) : Result := aluRegister .adc .e s

/-- ADC A,H (R304). -/
def execAdcAH (s : State) : Result := aluRegister .adc .h s

/-- ADC A,L (R304). -/
def execAdcAL (s : State) : Result := aluRegister .adc .l s

/-- ADC A,(HL) (R305). -/
def execAdcAAtHl (s : State) : Result := aluMemory .adc s

/-- ADC A,A (R304). -/
def execAdcAA (s : State) : Result := aluRegister .adc .a s

/-- SUB B (R307). -/
def execSubB (s : State) : Result := aluRegister .sub .b s

/-- SUB C (R307). -/
def execSubC (s : State) : Result := aluRegister .sub .c s

/-- SUB D (R307). -/
def execSubD (s : State) : Result := aluRegister .sub .d s

/-- SUB E (R307). -/
def execSubE (s : State) : Result := aluRegister .sub .e s

/-- SUB H (R307). -/
def execSubH (s : State) : Result := aluRegister .sub .h s

/-- SUB L (R307). -/
def execSubL (s : State) : Result := aluRegister .sub .l s

/-- SUB (HL) (R308). -/
def execSubAtHl (s : State) : Result := aluMemory .sub s

/-- SUB A (R307). -/
def execSubA (s : State) : Result := aluRegister .sub .a s

/-- SBC A,B (R310). -/
def execSbcAB (s : State) : Result := aluRegister .sbc .b s

/-- SBC A,C (R310). -/
def execSbcAC (s : State) : Result := aluRegister .sbc .c s

/-- SBC A,D (R310). -/
def execSbcAD (s : State) : Result := aluRegister .sbc .d s

/-- SBC A,E (R310). -/
def execSbcAE (s : State) : Result := aluRegister .sbc .e s

/-- SBC A,H (R310). -/
def execSbcAH (s : State) : Result := aluRegister .sbc .h s

/-- SBC A,L (R310). -/
def execSbcAL (s : State) : Result := aluRegister .sbc .l s

/-- SBC A,(HL) (R311). -/
def execSbcAAtHl (s : State) : Result := aluMemory .sbc s

/-- SBC A,A (R310). -/
def execSbcAA (s : State) : Result := aluRegister .sbc .a s

/-- AND B (R313). -/
def execAndB (s : State) : Result := aluRegister .and .b s

/-- AND C (R313). -/
def execAndC (s : State) : Result := aluRegister .and .c s

/-- AND D (R313). -/
def execAndD (s : State) : Result := aluRegister .and .d s

/-- AND E (R313). -/
def execAndE (s : State) : Result := aluRegister .and .e s

/-- AND H (R313). -/
def execAndH (s : State) : Result := aluRegister .and .h s

/-- AND L (R313). -/
def execAndL (s : State) : Result := aluRegister .and .l s

/-- AND (HL) (R314). -/
def execAndAtHl (s : State) : Result := aluMemory .and s

/-- AND A (R313). -/
def execAndA (s : State) : Result := aluRegister .and .a s

/-- XOR B (R316). -/
def execXorB (s : State) : Result := aluRegister .xor .b s

/-- XOR C (R316). -/
def execXorC (s : State) : Result := aluRegister .xor .c s

/-- XOR D (R316). -/
def execXorD (s : State) : Result := aluRegister .xor .d s

/-- XOR E (R316). -/
def execXorE (s : State) : Result := aluRegister .xor .e s

/-- XOR H (R316). -/
def execXorH (s : State) : Result := aluRegister .xor .h s

/-- XOR L (R316). -/
def execXorL (s : State) : Result := aluRegister .xor .l s

/-- XOR (HL) (R317). -/
def execXorAtHl (s : State) : Result := aluMemory .xor s

/-- XOR A (R316). -/
def execXorA (s : State) : Result := aluRegister .xor .a s

/-- OR B (R319). -/
def execOrB (s : State) : Result := aluRegister .or .b s

/-- OR C (R319). -/
def execOrC (s : State) : Result := aluRegister .or .c s

/-- OR D (R319). -/
def execOrD (s : State) : Result := aluRegister .or .d s

/-- OR E (R319). -/
def execOrE (s : State) : Result := aluRegister .or .e s

/-- OR H (R319). -/
def execOrH (s : State) : Result := aluRegister .or .h s

/-- OR L (R319). -/
def execOrL (s : State) : Result := aluRegister .or .l s

/-- OR (HL) (R320). -/
def execOrAtHl (s : State) : Result := aluMemory .or s

/-- OR A (R319). -/
def execOrA (s : State) : Result := aluRegister .or .a s

/-- CP B (R322). -/
def execCpB (s : State) : Result := aluRegister .cp .b s

/-- CP C (R322). -/
def execCpC (s : State) : Result := aluRegister .cp .c s

/-- CP D (R322). -/
def execCpD (s : State) : Result := aluRegister .cp .d s

/-- CP E (R322). -/
def execCpE (s : State) : Result := aluRegister .cp .e s

/-- CP H (R322). -/
def execCpH (s : State) : Result := aluRegister .cp .h s

/-- CP L (R322). -/
def execCpL (s : State) : Result := aluRegister .cp .l s

/-- CP (HL) (R323). -/
def execCpAtHl (s : State) : Result := aluMemory .cp s

/-- CP A (R322). -/
def execCpA (s : State) : Result := aluRegister .cp .a s

/-- ADD A,d8 (R303). -/
def execAddAImm (d : Byte) (s : State) : Result := aluImmediate .add d s

/-- ADC A,d8 (R306). -/
def execAdcAImm (d : Byte) (s : State) : Result := aluImmediate .adc d s

/-- SUB d8 (R309). -/
def execSubImm (d : Byte) (s : State) : Result := aluImmediate .sub d s

/-- SBC A,d8 (R312). -/
def execSbcAImm (d : Byte) (s : State) : Result := aluImmediate .sbc d s

/-- AND d8 (R315). -/
def execAndImm (d : Byte) (s : State) : Result := aluImmediate .and d s

/-- XOR d8 (R318). -/
def execXorImm (d : Byte) (s : State) : Result := aluImmediate .xor d s

/-- OR d8 (R321). -/
def execOrImm (d : Byte) (s : State) : Result := aluImmediate .or d s

/-- CP d8 (R324). -/
def execCpImm (d : Byte) (s : State) : Result := aluImmediate .cp d s

end Sys2Proof.Machine
end

