-- ==== Sys2Proof/Machine/Bit.lean ====
section
/-! DEFINITION. The meanings of BIT, RES and SET (46_bit.md R420 to R425). -/

namespace Sys2Proof.Machine

/-- BIT b,r (R420). -/
def testRegister (b : Fin 8) (r : Reg8) (s : State) : Result := .next (s.onCpu fun c => c.testBit b (c.r8 r))

/-- BIT b,(HL) (R421): one read, no write. -/
def testMemory (b : Fin 8) (s : State) : Result :=
  .next ((s.afterRead s.cpu.hl).onCpu fun c => c.testBit b (s.read s.cpu.hl))

/-- RES b,r and SET b,r (R422, R424): no flag changes. -/
def changeRegister (f : Byte → Byte) (r : Reg8) (s : State) : Result := .next (s.onCpu fun c => c.setR8 r (f (c.r8 r)))

/-- RES b,(HL) and SET b,(HL) (R423, R425): the write happens even when the byte does not change. -/
def changeMemory (f : Byte → Byte) (s : State) : Result :=
  .next ((s.afterRead s.cpu.hl).write s.cpu.hl (f (s.read s.cpu.hl)))

/-- BIT 0,B (R420). -/
def execBit0B (s : State) : Result := testRegister 0 .b s

/-- BIT 0,C (R420). -/
def execBit0C (s : State) : Result := testRegister 0 .c s

/-- BIT 0,D (R420). -/
def execBit0D (s : State) : Result := testRegister 0 .d s

/-- BIT 0,E (R420). -/
def execBit0E (s : State) : Result := testRegister 0 .e s

/-- BIT 0,H (R420). -/
def execBit0H (s : State) : Result := testRegister 0 .h s

/-- BIT 0,L (R420). -/
def execBit0L (s : State) : Result := testRegister 0 .l s

/-- BIT 0,(HL) (R421). -/
def execBit0AtHl (s : State) : Result := testMemory 0 s

/-- BIT 0,A (R420). -/
def execBit0A (s : State) : Result := testRegister 0 .a s

/-- BIT 1,B (R420). -/
def execBit1B (s : State) : Result := testRegister 1 .b s

/-- BIT 1,C (R420). -/
def execBit1C (s : State) : Result := testRegister 1 .c s

/-- BIT 1,D (R420). -/
def execBit1D (s : State) : Result := testRegister 1 .d s

/-- BIT 1,E (R420). -/
def execBit1E (s : State) : Result := testRegister 1 .e s

/-- BIT 1,H (R420). -/
def execBit1H (s : State) : Result := testRegister 1 .h s

/-- BIT 1,L (R420). -/
def execBit1L (s : State) : Result := testRegister 1 .l s

/-- BIT 1,(HL) (R421). -/
def execBit1AtHl (s : State) : Result := testMemory 1 s

/-- BIT 1,A (R420). -/
def execBit1A (s : State) : Result := testRegister 1 .a s

/-- BIT 2,B (R420). -/
def execBit2B (s : State) : Result := testRegister 2 .b s

/-- BIT 2,C (R420). -/
def execBit2C (s : State) : Result := testRegister 2 .c s

/-- BIT 2,D (R420). -/
def execBit2D (s : State) : Result := testRegister 2 .d s

/-- BIT 2,E (R420). -/
def execBit2E (s : State) : Result := testRegister 2 .e s

/-- BIT 2,H (R420). -/
def execBit2H (s : State) : Result := testRegister 2 .h s

/-- BIT 2,L (R420). -/
def execBit2L (s : State) : Result := testRegister 2 .l s

/-- BIT 2,(HL) (R421). -/
def execBit2AtHl (s : State) : Result := testMemory 2 s

/-- BIT 2,A (R420). -/
def execBit2A (s : State) : Result := testRegister 2 .a s

/-- BIT 3,B (R420). -/
def execBit3B (s : State) : Result := testRegister 3 .b s

/-- BIT 3,C (R420). -/
def execBit3C (s : State) : Result := testRegister 3 .c s

/-- BIT 3,D (R420). -/
def execBit3D (s : State) : Result := testRegister 3 .d s

/-- BIT 3,E (R420). -/
def execBit3E (s : State) : Result := testRegister 3 .e s

/-- BIT 3,H (R420). -/
def execBit3H (s : State) : Result := testRegister 3 .h s

/-- BIT 3,L (R420). -/
def execBit3L (s : State) : Result := testRegister 3 .l s

/-- BIT 3,(HL) (R421). -/
def execBit3AtHl (s : State) : Result := testMemory 3 s

/-- BIT 3,A (R420). -/
def execBit3A (s : State) : Result := testRegister 3 .a s

/-- BIT 4,B (R420). -/
def execBit4B (s : State) : Result := testRegister 4 .b s

/-- BIT 4,C (R420). -/
def execBit4C (s : State) : Result := testRegister 4 .c s

/-- BIT 4,D (R420). -/
def execBit4D (s : State) : Result := testRegister 4 .d s

/-- BIT 4,E (R420). -/
def execBit4E (s : State) : Result := testRegister 4 .e s

/-- BIT 4,H (R420). -/
def execBit4H (s : State) : Result := testRegister 4 .h s

/-- BIT 4,L (R420). -/
def execBit4L (s : State) : Result := testRegister 4 .l s

/-- BIT 4,(HL) (R421). -/
def execBit4AtHl (s : State) : Result := testMemory 4 s

/-- BIT 4,A (R420). -/
def execBit4A (s : State) : Result := testRegister 4 .a s

/-- BIT 5,B (R420). -/
def execBit5B (s : State) : Result := testRegister 5 .b s

/-- BIT 5,C (R420). -/
def execBit5C (s : State) : Result := testRegister 5 .c s

/-- BIT 5,D (R420). -/
def execBit5D (s : State) : Result := testRegister 5 .d s

/-- BIT 5,E (R420). -/
def execBit5E (s : State) : Result := testRegister 5 .e s

/-- BIT 5,H (R420). -/
def execBit5H (s : State) : Result := testRegister 5 .h s

/-- BIT 5,L (R420). -/
def execBit5L (s : State) : Result := testRegister 5 .l s

/-- BIT 5,(HL) (R421). -/
def execBit5AtHl (s : State) : Result := testMemory 5 s

/-- BIT 5,A (R420). -/
def execBit5A (s : State) : Result := testRegister 5 .a s

/-- BIT 6,B (R420). -/
def execBit6B (s : State) : Result := testRegister 6 .b s

/-- BIT 6,C (R420). -/
def execBit6C (s : State) : Result := testRegister 6 .c s

/-- BIT 6,D (R420). -/
def execBit6D (s : State) : Result := testRegister 6 .d s

/-- BIT 6,E (R420). -/
def execBit6E (s : State) : Result := testRegister 6 .e s

/-- BIT 6,H (R420). -/
def execBit6H (s : State) : Result := testRegister 6 .h s

/-- BIT 6,L (R420). -/
def execBit6L (s : State) : Result := testRegister 6 .l s

/-- BIT 6,(HL) (R421). -/
def execBit6AtHl (s : State) : Result := testMemory 6 s

/-- BIT 6,A (R420). -/
def execBit6A (s : State) : Result := testRegister 6 .a s

/-- BIT 7,B (R420). -/
def execBit7B (s : State) : Result := testRegister 7 .b s

/-- BIT 7,C (R420). -/
def execBit7C (s : State) : Result := testRegister 7 .c s

/-- BIT 7,D (R420). -/
def execBit7D (s : State) : Result := testRegister 7 .d s

/-- BIT 7,E (R420). -/
def execBit7E (s : State) : Result := testRegister 7 .e s

/-- BIT 7,H (R420). -/
def execBit7H (s : State) : Result := testRegister 7 .h s

/-- BIT 7,L (R420). -/
def execBit7L (s : State) : Result := testRegister 7 .l s

/-- BIT 7,(HL) (R421). -/
def execBit7AtHl (s : State) : Result := testMemory 7 s

/-- BIT 7,A (R420). -/
def execBit7A (s : State) : Result := testRegister 7 .a s

/-- RES 0,B (R422). -/
def execRes0B (s : State) : Result := changeRegister (resetBit 0) .b s

/-- RES 0,C (R422). -/
def execRes0C (s : State) : Result := changeRegister (resetBit 0) .c s

/-- RES 0,D (R422). -/
def execRes0D (s : State) : Result := changeRegister (resetBit 0) .d s

/-- RES 0,E (R422). -/
def execRes0E (s : State) : Result := changeRegister (resetBit 0) .e s

/-- RES 0,H (R422). -/
def execRes0H (s : State) : Result := changeRegister (resetBit 0) .h s

/-- RES 0,L (R422). -/
def execRes0L (s : State) : Result := changeRegister (resetBit 0) .l s

/-- RES 0,(HL) (R423). -/
def execRes0AtHl (s : State) : Result := changeMemory (resetBit 0) s

/-- RES 0,A (R422). -/
def execRes0A (s : State) : Result := changeRegister (resetBit 0) .a s

/-- RES 1,B (R422). -/
def execRes1B (s : State) : Result := changeRegister (resetBit 1) .b s

/-- RES 1,C (R422). -/
def execRes1C (s : State) : Result := changeRegister (resetBit 1) .c s

/-- RES 1,D (R422). -/
def execRes1D (s : State) : Result := changeRegister (resetBit 1) .d s

/-- RES 1,E (R422). -/
def execRes1E (s : State) : Result := changeRegister (resetBit 1) .e s

/-- RES 1,H (R422). -/
def execRes1H (s : State) : Result := changeRegister (resetBit 1) .h s

/-- RES 1,L (R422). -/
def execRes1L (s : State) : Result := changeRegister (resetBit 1) .l s

/-- RES 1,(HL) (R423). -/
def execRes1AtHl (s : State) : Result := changeMemory (resetBit 1) s

/-- RES 1,A (R422). -/
def execRes1A (s : State) : Result := changeRegister (resetBit 1) .a s

/-- RES 2,B (R422). -/
def execRes2B (s : State) : Result := changeRegister (resetBit 2) .b s

/-- RES 2,C (R422). -/
def execRes2C (s : State) : Result := changeRegister (resetBit 2) .c s

/-- RES 2,D (R422). -/
def execRes2D (s : State) : Result := changeRegister (resetBit 2) .d s

/-- RES 2,E (R422). -/
def execRes2E (s : State) : Result := changeRegister (resetBit 2) .e s

/-- RES 2,H (R422). -/
def execRes2H (s : State) : Result := changeRegister (resetBit 2) .h s

/-- RES 2,L (R422). -/
def execRes2L (s : State) : Result := changeRegister (resetBit 2) .l s

/-- RES 2,(HL) (R423). -/
def execRes2AtHl (s : State) : Result := changeMemory (resetBit 2) s

/-- RES 2,A (R422). -/
def execRes2A (s : State) : Result := changeRegister (resetBit 2) .a s

/-- RES 3,B (R422). -/
def execRes3B (s : State) : Result := changeRegister (resetBit 3) .b s

/-- RES 3,C (R422). -/
def execRes3C (s : State) : Result := changeRegister (resetBit 3) .c s

/-- RES 3,D (R422). -/
def execRes3D (s : State) : Result := changeRegister (resetBit 3) .d s

/-- RES 3,E (R422). -/
def execRes3E (s : State) : Result := changeRegister (resetBit 3) .e s

/-- RES 3,H (R422). -/
def execRes3H (s : State) : Result := changeRegister (resetBit 3) .h s

/-- RES 3,L (R422). -/
def execRes3L (s : State) : Result := changeRegister (resetBit 3) .l s

/-- RES 3,(HL) (R423). -/
def execRes3AtHl (s : State) : Result := changeMemory (resetBit 3) s

/-- RES 3,A (R422). -/
def execRes3A (s : State) : Result := changeRegister (resetBit 3) .a s

/-- RES 4,B (R422). -/
def execRes4B (s : State) : Result := changeRegister (resetBit 4) .b s

/-- RES 4,C (R422). -/
def execRes4C (s : State) : Result := changeRegister (resetBit 4) .c s

/-- RES 4,D (R422). -/
def execRes4D (s : State) : Result := changeRegister (resetBit 4) .d s

/-- RES 4,E (R422). -/
def execRes4E (s : State) : Result := changeRegister (resetBit 4) .e s

/-- RES 4,H (R422). -/
def execRes4H (s : State) : Result := changeRegister (resetBit 4) .h s

/-- RES 4,L (R422). -/
def execRes4L (s : State) : Result := changeRegister (resetBit 4) .l s

/-- RES 4,(HL) (R423). -/
def execRes4AtHl (s : State) : Result := changeMemory (resetBit 4) s

/-- RES 4,A (R422). -/
def execRes4A (s : State) : Result := changeRegister (resetBit 4) .a s

/-- RES 5,B (R422). -/
def execRes5B (s : State) : Result := changeRegister (resetBit 5) .b s

/-- RES 5,C (R422). -/
def execRes5C (s : State) : Result := changeRegister (resetBit 5) .c s

/-- RES 5,D (R422). -/
def execRes5D (s : State) : Result := changeRegister (resetBit 5) .d s

/-- RES 5,E (R422). -/
def execRes5E (s : State) : Result := changeRegister (resetBit 5) .e s

/-- RES 5,H (R422). -/
def execRes5H (s : State) : Result := changeRegister (resetBit 5) .h s

/-- RES 5,L (R422). -/
def execRes5L (s : State) : Result := changeRegister (resetBit 5) .l s

/-- RES 5,(HL) (R423). -/
def execRes5AtHl (s : State) : Result := changeMemory (resetBit 5) s

/-- RES 5,A (R422). -/
def execRes5A (s : State) : Result := changeRegister (resetBit 5) .a s

/-- RES 6,B (R422). -/
def execRes6B (s : State) : Result := changeRegister (resetBit 6) .b s

/-- RES 6,C (R422). -/
def execRes6C (s : State) : Result := changeRegister (resetBit 6) .c s

/-- RES 6,D (R422). -/
def execRes6D (s : State) : Result := changeRegister (resetBit 6) .d s

/-- RES 6,E (R422). -/
def execRes6E (s : State) : Result := changeRegister (resetBit 6) .e s

/-- RES 6,H (R422). -/
def execRes6H (s : State) : Result := changeRegister (resetBit 6) .h s

/-- RES 6,L (R422). -/
def execRes6L (s : State) : Result := changeRegister (resetBit 6) .l s

/-- RES 6,(HL) (R423). -/
def execRes6AtHl (s : State) : Result := changeMemory (resetBit 6) s

/-- RES 6,A (R422). -/
def execRes6A (s : State) : Result := changeRegister (resetBit 6) .a s

/-- RES 7,B (R422). -/
def execRes7B (s : State) : Result := changeRegister (resetBit 7) .b s

/-- RES 7,C (R422). -/
def execRes7C (s : State) : Result := changeRegister (resetBit 7) .c s

/-- RES 7,D (R422). -/
def execRes7D (s : State) : Result := changeRegister (resetBit 7) .d s

/-- RES 7,E (R422). -/
def execRes7E (s : State) : Result := changeRegister (resetBit 7) .e s

/-- RES 7,H (R422). -/
def execRes7H (s : State) : Result := changeRegister (resetBit 7) .h s

/-- RES 7,L (R422). -/
def execRes7L (s : State) : Result := changeRegister (resetBit 7) .l s

/-- RES 7,(HL) (R423). -/
def execRes7AtHl (s : State) : Result := changeMemory (resetBit 7) s

/-- RES 7,A (R422). -/
def execRes7A (s : State) : Result := changeRegister (resetBit 7) .a s

/-- SET 0,B (R424). -/
def execSet0B (s : State) : Result := changeRegister (setBit 0) .b s

/-- SET 0,C (R424). -/
def execSet0C (s : State) : Result := changeRegister (setBit 0) .c s

/-- SET 0,D (R424). -/
def execSet0D (s : State) : Result := changeRegister (setBit 0) .d s

/-- SET 0,E (R424). -/
def execSet0E (s : State) : Result := changeRegister (setBit 0) .e s

/-- SET 0,H (R424). -/
def execSet0H (s : State) : Result := changeRegister (setBit 0) .h s

/-- SET 0,L (R424). -/
def execSet0L (s : State) : Result := changeRegister (setBit 0) .l s

/-- SET 0,(HL) (R425). -/
def execSet0AtHl (s : State) : Result := changeMemory (setBit 0) s

/-- SET 0,A (R424). -/
def execSet0A (s : State) : Result := changeRegister (setBit 0) .a s

/-- SET 1,B (R424). -/
def execSet1B (s : State) : Result := changeRegister (setBit 1) .b s

/-- SET 1,C (R424). -/
def execSet1C (s : State) : Result := changeRegister (setBit 1) .c s

/-- SET 1,D (R424). -/
def execSet1D (s : State) : Result := changeRegister (setBit 1) .d s

/-- SET 1,E (R424). -/
def execSet1E (s : State) : Result := changeRegister (setBit 1) .e s

/-- SET 1,H (R424). -/
def execSet1H (s : State) : Result := changeRegister (setBit 1) .h s

/-- SET 1,L (R424). -/
def execSet1L (s : State) : Result := changeRegister (setBit 1) .l s

/-- SET 1,(HL) (R425). -/
def execSet1AtHl (s : State) : Result := changeMemory (setBit 1) s

/-- SET 1,A (R424). -/
def execSet1A (s : State) : Result := changeRegister (setBit 1) .a s

/-- SET 2,B (R424). -/
def execSet2B (s : State) : Result := changeRegister (setBit 2) .b s

/-- SET 2,C (R424). -/
def execSet2C (s : State) : Result := changeRegister (setBit 2) .c s

/-- SET 2,D (R424). -/
def execSet2D (s : State) : Result := changeRegister (setBit 2) .d s

/-- SET 2,E (R424). -/
def execSet2E (s : State) : Result := changeRegister (setBit 2) .e s

/-- SET 2,H (R424). -/
def execSet2H (s : State) : Result := changeRegister (setBit 2) .h s

/-- SET 2,L (R424). -/
def execSet2L (s : State) : Result := changeRegister (setBit 2) .l s

/-- SET 2,(HL) (R425). -/
def execSet2AtHl (s : State) : Result := changeMemory (setBit 2) s

/-- SET 2,A (R424). -/
def execSet2A (s : State) : Result := changeRegister (setBit 2) .a s

/-- SET 3,B (R424). -/
def execSet3B (s : State) : Result := changeRegister (setBit 3) .b s

/-- SET 3,C (R424). -/
def execSet3C (s : State) : Result := changeRegister (setBit 3) .c s

/-- SET 3,D (R424). -/
def execSet3D (s : State) : Result := changeRegister (setBit 3) .d s

/-- SET 3,E (R424). -/
def execSet3E (s : State) : Result := changeRegister (setBit 3) .e s

/-- SET 3,H (R424). -/
def execSet3H (s : State) : Result := changeRegister (setBit 3) .h s

/-- SET 3,L (R424). -/
def execSet3L (s : State) : Result := changeRegister (setBit 3) .l s

/-- SET 3,(HL) (R425). -/
def execSet3AtHl (s : State) : Result := changeMemory (setBit 3) s

/-- SET 3,A (R424). -/
def execSet3A (s : State) : Result := changeRegister (setBit 3) .a s

/-- SET 4,B (R424). -/
def execSet4B (s : State) : Result := changeRegister (setBit 4) .b s

/-- SET 4,C (R424). -/
def execSet4C (s : State) : Result := changeRegister (setBit 4) .c s

/-- SET 4,D (R424). -/
def execSet4D (s : State) : Result := changeRegister (setBit 4) .d s

/-- SET 4,E (R424). -/
def execSet4E (s : State) : Result := changeRegister (setBit 4) .e s

/-- SET 4,H (R424). -/
def execSet4H (s : State) : Result := changeRegister (setBit 4) .h s

/-- SET 4,L (R424). -/
def execSet4L (s : State) : Result := changeRegister (setBit 4) .l s

/-- SET 4,(HL) (R425). -/
def execSet4AtHl (s : State) : Result := changeMemory (setBit 4) s

/-- SET 4,A (R424). -/
def execSet4A (s : State) : Result := changeRegister (setBit 4) .a s

/-- SET 5,B (R424). -/
def execSet5B (s : State) : Result := changeRegister (setBit 5) .b s

/-- SET 5,C (R424). -/
def execSet5C (s : State) : Result := changeRegister (setBit 5) .c s

/-- SET 5,D (R424). -/
def execSet5D (s : State) : Result := changeRegister (setBit 5) .d s

/-- SET 5,E (R424). -/
def execSet5E (s : State) : Result := changeRegister (setBit 5) .e s

/-- SET 5,H (R424). -/
def execSet5H (s : State) : Result := changeRegister (setBit 5) .h s

/-- SET 5,L (R424). -/
def execSet5L (s : State) : Result := changeRegister (setBit 5) .l s

/-- SET 5,(HL) (R425). -/
def execSet5AtHl (s : State) : Result := changeMemory (setBit 5) s

/-- SET 5,A (R424). -/
def execSet5A (s : State) : Result := changeRegister (setBit 5) .a s

/-- SET 6,B (R424). -/
def execSet6B (s : State) : Result := changeRegister (setBit 6) .b s

/-- SET 6,C (R424). -/
def execSet6C (s : State) : Result := changeRegister (setBit 6) .c s

/-- SET 6,D (R424). -/
def execSet6D (s : State) : Result := changeRegister (setBit 6) .d s

/-- SET 6,E (R424). -/
def execSet6E (s : State) : Result := changeRegister (setBit 6) .e s

/-- SET 6,H (R424). -/
def execSet6H (s : State) : Result := changeRegister (setBit 6) .h s

/-- SET 6,L (R424). -/
def execSet6L (s : State) : Result := changeRegister (setBit 6) .l s

/-- SET 6,(HL) (R425). -/
def execSet6AtHl (s : State) : Result := changeMemory (setBit 6) s

/-- SET 6,A (R424). -/
def execSet6A (s : State) : Result := changeRegister (setBit 6) .a s

/-- SET 7,B (R424). -/
def execSet7B (s : State) : Result := changeRegister (setBit 7) .b s

/-- SET 7,C (R424). -/
def execSet7C (s : State) : Result := changeRegister (setBit 7) .c s

/-- SET 7,D (R424). -/
def execSet7D (s : State) : Result := changeRegister (setBit 7) .d s

/-- SET 7,E (R424). -/
def execSet7E (s : State) : Result := changeRegister (setBit 7) .e s

/-- SET 7,H (R424). -/
def execSet7H (s : State) : Result := changeRegister (setBit 7) .h s

/-- SET 7,L (R424). -/
def execSet7L (s : State) : Result := changeRegister (setBit 7) .l s

/-- SET 7,(HL) (R425). -/
def execSet7AtHl (s : State) : Result := changeMemory (setBit 7) s

/-- SET 7,A (R424). -/
def execSet7A (s : State) : Result := changeRegister (setBit 7) .a s

end Sys2Proof.Machine
end

