-- ==== Sys2Proof/Machine/Control.lean ====
section
/-! DEFINITION. The meanings of jumps, calls, returns and restarts (47_control.md R441 to R451). None writes a flag
and no target is checked. -/

namespace Sys2Proof.Machine

/-- JP a16 (R441): `Idle(); PC <- a`. -/
def jump (addr : Word) (s : State) : Result := .next (s.idle.setPc addr)

/-- JP cc,a16 (R442). -/
def jumpIf (cc : Cond) (addr : Word) (s : State) : Result := if s.cpu.cond cc then jump addr s else .next s

/-- JP HL (R443): no memory is read. -/
def jumpToHl (s : State) : Result := .next (s.setPc s.cpu.hl)

/-- JR e8 (R444): `Idle(); PC <- pc + sext_16(e)`. -/
def jumpRelative (e : Byte) (s : State) : Result := .next (s.idle.setPc (s.cpu.pc + sext16 e))

/-- JR cc,e8 (R445). -/
def jumpRelativeIf (cc : Cond) (e : Byte) (s : State) : Result :=
  if s.cpu.cond cc then jumpRelative e s else .next s

/-- CALL a16 and RST (R446, R451): `Idle(); Push16(pc); PC <- a`. -/
def callTo (addr : Word) (s : State) : Result := .next ((s.idle.push16 s.cpu.pc).setPc addr)

/-- CALL cc,a16 (R447): not taken, the stack is untouched. -/
def callIf (cc : Cond) (addr : Word) (s : State) : Result := if s.cpu.cond cc then callTo addr s else .next s

/-- RET (R448): `a <- Pop16(); Idle(); PC <- a`. -/
def returnPlain (s : State) : Result := .next (s.pop16.2.idle.setPc s.pop16.1)

/-- RET cc (R449): one Idle for the test, then RET when the condition holds. -/
def returnIf (cc : Cond) (s : State) : Result := if s.cpu.cond cc then returnPlain s.idle else .next s.idle

/-- `8 × ttt` (R162). -/
def restartTarget (t : Fin 8) : Word := BitVec.ofNat 16 (8 * t.val)

/-- JR e8 (R444). -/
def execJr (e : Byte) (s : State) : Result := jumpRelative e s

/-- JR NZ,e8 (R445). -/
def execJrNz (e : Byte) (s : State) : Result := jumpRelativeIf .nz e s

/-- JR Z,e8 (R445). -/
def execJrZ (e : Byte) (s : State) : Result := jumpRelativeIf .z e s

/-- JR NC,e8 (R445). -/
def execJrNc (e : Byte) (s : State) : Result := jumpRelativeIf .nc e s

/-- JR C,e8 (R445). -/
def execJrC (e : Byte) (s : State) : Result := jumpRelativeIf .c e s

/-- RET NZ (R449). -/
def execRetNz (s : State) : Result := returnIf .nz s

/-- JP NZ,a16 (R442). -/
def execJpNz (a : Word) (s : State) : Result := jumpIf .nz a s

/-- JP a16 (R441). -/
def execJp (a : Word) (s : State) : Result := jump a s

/-- CALL NZ,a16 (R447). -/
def execCallNz (a : Word) (s : State) : Result := callIf .nz a s

/-- RST 00H (R451). -/
def execRst00 (s : State) : Result := callTo (restartTarget 0) s

/-- RET Z (R449). -/
def execRetZ (s : State) : Result := returnIf .z s

/-- RET (R448). -/
def execRet (s : State) : Result := returnPlain s

/-- JP Z,a16 (R442). -/
def execJpZ (a : Word) (s : State) : Result := jumpIf .z a s

/-- CALL Z,a16 (R447). -/
def execCallZ (a : Word) (s : State) : Result := callIf .z a s

/-- CALL a16 (R446). -/
def execCall (a : Word) (s : State) : Result := callTo a s

/-- RST 08H (R451). -/
def execRst08 (s : State) : Result := callTo (restartTarget 1) s

/-- RET NC (R449). -/
def execRetNc (s : State) : Result := returnIf .nc s

/-- JP NC,a16 (R442). -/
def execJpNc (a : Word) (s : State) : Result := jumpIf .nc a s

/-- CALL NC,a16 (R447). -/
def execCallNc (a : Word) (s : State) : Result := callIf .nc a s

/-- RST 10H (R451). -/
def execRst10 (s : State) : Result := callTo (restartTarget 2) s

/-- RET C (R449). -/
def execRetC (s : State) : Result := returnIf .c s

/-- RETI (R450). -/
def execReti (s : State) : Result := .next s.returnFromInterrupt

/-- JP C,a16 (R442). -/
def execJpC (a : Word) (s : State) : Result := jumpIf .c a s

/-- CALL C,a16 (R447). -/
def execCallC (a : Word) (s : State) : Result := callIf .c a s

/-- RST 18H (R451). -/
def execRst18 (s : State) : Result := callTo (restartTarget 3) s

/-- RST 20H (R451). -/
def execRst20 (s : State) : Result := callTo (restartTarget 4) s

/-- JP HL (R443). -/
def execJpHl (s : State) : Result := jumpToHl s

/-- RST 28H (R451). -/
def execRst28 (s : State) : Result := callTo (restartTarget 5) s

/-- RST 30H (R451). -/
def execRst30 (s : State) : Result := callTo (restartTarget 6) s

/-- RST 38H (R451). -/
def execRst38 (s : State) : Result := callTo (restartTarget 7) s

end Sys2Proof.Machine
end

