-- ==== Sys2Proof/Machine/Load16.lean ====
section
/-! DEFINITION. The meanings of the 16-bit loads and the stack instructions (42_load16_stack.md R250 to R256). -/

namespace Sys2Proof.Machine

/-- LD rr,d16 (R250). -/
def loadPair (p : Pair) (v : Word) (s : State) : Result := .next (s.onCpu fun c => c.setPair p v)

/-- LD (a16),SP (R251): low byte at `a`, then high byte at `a + 1`. -/
def storeSp (addr : Word) (s : State) : Result :=
  .next ((s.write addr (loByte s.cpu.sp)).write (addr + 1) (hiByte s.cpu.sp))

/-- LD SP,HL (R252): `Idle(); SP <- HL`. -/
def loadSpFromHl (s : State) : Result := .next (s.idle.setSp s.cpu.hl)

/-- LD HL,SP+e8 (R253): HL is SP plus the signed offset, the flags come from the unsigned low byte. -/
def loadHlSpOffset (e : Byte) (s : State) : Result :=
  .next (s.onCpu fun c =>
    (c.setHl (c.sp + sext16 e)).setFlags false false (spOffsetHalf c.sp e) (spOffsetCarry c.sp e)).idle

/-- PUSH rr (R254): `Idle(); Push16(x[rr])`. -/
def pushPair (p : StackPair) (s : State) : Result := .next (s.idle.push16 (s.cpu.stackPair p))

/-- POP rr and POP AF (R255, R256): `x[rr] <- Pop16()`; a write of AF forces F[3:0] to 0 (R43). -/
def popPair (p : StackPair) (s : State) : Result :=
  .next (s.pop16.2.onCpu fun c => c.setStackPair p s.pop16.1)

/-- LD BC,d16 (R250). -/
def execLdBcImm (d : Word) (s : State) : Result := loadPair .bc d s

/-- LD (a16),SP (R251). -/
def execLdAtAddrSp (a : Word) (s : State) : Result := storeSp a s

/-- LD DE,d16 (R250). -/
def execLdDeImm (d : Word) (s : State) : Result := loadPair .de d s

/-- LD HL,d16 (R250). -/
def execLdHlImm (d : Word) (s : State) : Result := loadPair .hl d s

/-- LD SP,d16 (R250). -/
def execLdSpImm (d : Word) (s : State) : Result := loadPair .sp d s

/-- POP BC (R255). -/
def execPopBc (s : State) : Result := popPair .bc s

/-- PUSH BC (R254). -/
def execPushBc (s : State) : Result := pushPair .bc s

/-- POP DE (R255). -/
def execPopDe (s : State) : Result := popPair .de s

/-- PUSH DE (R254). -/
def execPushDe (s : State) : Result := pushPair .de s

/-- POP HL (R255). -/
def execPopHl (s : State) : Result := popPair .hl s

/-- PUSH HL (R254). -/
def execPushHl (s : State) : Result := pushPair .hl s

/-- POP AF (R256). -/
def execPopAf (s : State) : Result := popPair .af s

/-- PUSH AF (R254). -/
def execPushAf (s : State) : Result := pushPair .af s

/-- LD HL,SP+e8 (R253). -/
def execLdHlSpImm (e : Byte) (s : State) : Result := loadHlSpOffset e s

/-- LD SP,HL (R252). -/
def execLdSpHl (s : State) : Result := loadSpFromHl s

end Sys2Proof.Machine
end

