-- ==== Sys2Proof/Machine/Load8.lean ====
section
/-! DEFINITION. The meanings of the 8-bit loads and stores (41_load8.md R201 to R219). A meaning starts where the
instruction's own bytes have been fetched, so PC points past them (R46); none writes a flag. -/

namespace Sys2Proof.Machine

/-- LD r,r' (R201): `x[ddd] <- x[sss]`. -/
def loadReg (dst src : Reg8) (s : State) : Result := .next (s.onCpu fun c => c.setR8 dst (c.r8 src))

/-- LD r,d8 (R202): `x[ddd] <- v`. -/
def loadImm (dst : Reg8) (v : Byte) (s : State) : Result := .next (s.onCpu fun c => c.setR8 dst v)

/-- A load of a register from an address formed before the register changes (R203, R206, R207, R210, R212,
R214). -/
def loadFrom (dst : Reg8) (addr : Word) (s : State) : Result :=
  .next ((s.afterRead addr).onCpu fun c => c.setR8 dst (s.read addr))

/-- A store of a byte (R204, R205, R208, R209, R211, R213, R215). -/
def storeTo (addr : Word) (v : Byte) (s : State) : Result := .next (s.write addr v)

/-- LD (HL+),A and LD (HL-),A (R216, R217): `MemWrite(HL, 1, A)`, then HL moves by `step`. -/
def storeAStep (step : Word) (s : State) : Result :=
  .next ((s.write s.cpu.hl s.cpu.a).onCpu fun c => c.setHl (c.hl + step))

/-- LD A,(HL+) and LD A,(HL-) (R218, R219): `A <- MemRead(HL, 1)`, then HL moves by `step`. -/
def loadAStep (step : Word) (s : State) : Result :=
  .next ((s.afterRead s.cpu.hl).onCpu fun c => { c with a := s.read s.cpu.hl }.setHl (c.hl + step))

/-- LD (BC),A (R208). -/
def execLdAtBcA (s : State) : Result := storeTo s.cpu.bc s.cpu.a s

/-- LD B,d8 (R202). -/
def execLdBImm (d : Byte) (s : State) : Result := loadImm .b d s

/-- LD A,(BC) (R206). -/
def execLdAAtBc (s : State) : Result := loadFrom .a s.cpu.bc s

/-- LD C,d8 (R202). -/
def execLdCImm (d : Byte) (s : State) : Result := loadImm .c d s

/-- LD (DE),A (R209). -/
def execLdAtDeA (s : State) : Result := storeTo s.cpu.de s.cpu.a s

/-- LD D,d8 (R202). -/
def execLdDImm (d : Byte) (s : State) : Result := loadImm .d d s

/-- LD A,(DE) (R207). -/
def execLdAAtDe (s : State) : Result := loadFrom .a s.cpu.de s

/-- LD E,d8 (R202). -/
def execLdEImm (d : Byte) (s : State) : Result := loadImm .e d s

/-- LD (HL+),A (R216). -/
def execLdAtHlIncA (s : State) : Result := storeAStep 1 s

/-- LD H,d8 (R202). -/
def execLdHImm (d : Byte) (s : State) : Result := loadImm .h d s

/-- LD A,(HL+) (R218). -/
def execLdAAtHlInc (s : State) : Result := loadAStep 1 s

/-- LD L,d8 (R202). -/
def execLdLImm (d : Byte) (s : State) : Result := loadImm .l d s

/-- LD (HL-),A (R217). -/
def execLdAtHlDecA (s : State) : Result := storeAStep (-1) s

/-- LD (HL),d8 (R205). -/
def execLdAtHlImm (d : Byte) (s : State) : Result := storeTo s.cpu.hl d s

/-- LD A,(HL-) (R219). -/
def execLdAAtHlDec (s : State) : Result := loadAStep (-1) s

/-- LD A,d8 (R202). -/
def execLdAImm (d : Byte) (s : State) : Result := loadImm .a d s

/-- LD B,B (R201). -/
def execLdBB (s : State) : Result := loadReg .b .b s

/-- LD B,C (R201). -/
def execLdBC (s : State) : Result := loadReg .b .c s

/-- LD B,D (R201). -/
def execLdBD (s : State) : Result := loadReg .b .d s

/-- LD B,E (R201). -/
def execLdBE (s : State) : Result := loadReg .b .e s

/-- LD B,H (R201). -/
def execLdBH (s : State) : Result := loadReg .b .h s

/-- LD B,L (R201). -/
def execLdBL (s : State) : Result := loadReg .b .l s

/-- LD B,(HL) (R203). -/
def execLdBAtHl (s : State) : Result := loadFrom .b s.cpu.hl s

/-- LD B,A (R201). -/
def execLdBA (s : State) : Result := loadReg .b .a s

/-- LD C,B (R201). -/
def execLdCB (s : State) : Result := loadReg .c .b s

/-- LD C,C (R201). -/
def execLdCC (s : State) : Result := loadReg .c .c s

/-- LD C,D (R201). -/
def execLdCD (s : State) : Result := loadReg .c .d s

/-- LD C,E (R201). -/
def execLdCE (s : State) : Result := loadReg .c .e s

/-- LD C,H (R201). -/
def execLdCH (s : State) : Result := loadReg .c .h s

/-- LD C,L (R201). -/
def execLdCL (s : State) : Result := loadReg .c .l s

/-- LD C,(HL) (R203). -/
def execLdCAtHl (s : State) : Result := loadFrom .c s.cpu.hl s

/-- LD C,A (R201). -/
def execLdCA (s : State) : Result := loadReg .c .a s

/-- LD D,B (R201). -/
def execLdDB (s : State) : Result := loadReg .d .b s

/-- LD D,C (R201). -/
def execLdDC (s : State) : Result := loadReg .d .c s

/-- LD D,D (R201). -/
def execLdDD (s : State) : Result := loadReg .d .d s

/-- LD D,E (R201). -/
def execLdDE (s : State) : Result := loadReg .d .e s

/-- LD D,H (R201). -/
def execLdDH (s : State) : Result := loadReg .d .h s

/-- LD D,L (R201). -/
def execLdDL (s : State) : Result := loadReg .d .l s

/-- LD D,(HL) (R203). -/
def execLdDAtHl (s : State) : Result := loadFrom .d s.cpu.hl s

/-- LD D,A (R201). -/
def execLdDA (s : State) : Result := loadReg .d .a s

/-- LD E,B (R201). -/
def execLdEB (s : State) : Result := loadReg .e .b s

/-- LD E,C (R201). -/
def execLdEC (s : State) : Result := loadReg .e .c s

/-- LD E,D (R201). -/
def execLdED (s : State) : Result := loadReg .e .d s

/-- LD E,E (R201). -/
def execLdEE (s : State) : Result := loadReg .e .e s

/-- LD E,H (R201). -/
def execLdEH (s : State) : Result := loadReg .e .h s

/-- LD E,L (R201). -/
def execLdEL (s : State) : Result := loadReg .e .l s

/-- LD E,(HL) (R203). -/
def execLdEAtHl (s : State) : Result := loadFrom .e s.cpu.hl s

/-- LD E,A (R201). -/
def execLdEA (s : State) : Result := loadReg .e .a s

/-- LD H,B (R201). -/
def execLdHB (s : State) : Result := loadReg .h .b s

/-- LD H,C (R201). -/
def execLdHC (s : State) : Result := loadReg .h .c s

/-- LD H,D (R201). -/
def execLdHD (s : State) : Result := loadReg .h .d s

/-- LD H,E (R201). -/
def execLdHE (s : State) : Result := loadReg .h .e s

/-- LD H,H (R201). -/
def execLdHH (s : State) : Result := loadReg .h .h s

/-- LD H,L (R201). -/
def execLdHL (s : State) : Result := loadReg .h .l s

/-- LD H,(HL) (R203). -/
def execLdHAtHl (s : State) : Result := loadFrom .h s.cpu.hl s

/-- LD H,A (R201). -/
def execLdHA (s : State) : Result := loadReg .h .a s

/-- LD L,B (R201). -/
def execLdLB (s : State) : Result := loadReg .l .b s

/-- LD L,C (R201). -/
def execLdLC (s : State) : Result := loadReg .l .c s

/-- LD L,D (R201). -/
def execLdLD (s : State) : Result := loadReg .l .d s

/-- LD L,E (R201). -/
def execLdLE (s : State) : Result := loadReg .l .e s

/-- LD L,H (R201). -/
def execLdLH (s : State) : Result := loadReg .l .h s

/-- LD L,L (R201). -/
def execLdLL (s : State) : Result := loadReg .l .l s

/-- LD L,(HL) (R203). -/
def execLdLAtHl (s : State) : Result := loadFrom .l s.cpu.hl s

/-- LD L,A (R201). -/
def execLdLA (s : State) : Result := loadReg .l .a s

/-- LD (HL),B (R204). -/
def execLdAtHlB (s : State) : Result := storeTo s.cpu.hl s.cpu.b s

/-- LD (HL),C (R204). -/
def execLdAtHlC (s : State) : Result := storeTo s.cpu.hl s.cpu.c s

/-- LD (HL),D (R204). -/
def execLdAtHlD (s : State) : Result := storeTo s.cpu.hl s.cpu.d s

/-- LD (HL),E (R204). -/
def execLdAtHlE (s : State) : Result := storeTo s.cpu.hl s.cpu.e s

/-- LD (HL),H (R204). -/
def execLdAtHlH (s : State) : Result := storeTo s.cpu.hl s.cpu.h s

/-- LD (HL),L (R204). -/
def execLdAtHlL (s : State) : Result := storeTo s.cpu.hl s.cpu.l s

/-- LD (HL),A (R204). -/
def execLdAtHlA (s : State) : Result := storeTo s.cpu.hl s.cpu.a s

/-- LD A,B (R201). -/
def execLdAB (s : State) : Result := loadReg .a .b s

/-- LD A,C (R201). -/
def execLdAC (s : State) : Result := loadReg .a .c s

/-- LD A,D (R201). -/
def execLdAD (s : State) : Result := loadReg .a .d s

/-- LD A,E (R201). -/
def execLdAE (s : State) : Result := loadReg .a .e s

/-- LD A,H (R201). -/
def execLdAH (s : State) : Result := loadReg .a .h s

/-- LD A,L (R201). -/
def execLdAL (s : State) : Result := loadReg .a .l s

/-- LD A,(HL) (R203). -/
def execLdAAtHl (s : State) : Result := loadFrom .a s.cpu.hl s

/-- LD A,A (R201). -/
def execLdAA (s : State) : Result := loadReg .a .a s

/-- LDH (a8),A (R213). -/
def execLdhAtOffA (o : Byte) (s : State) : Result := storeTo (highPage o) s.cpu.a s

/-- LD (C),A (R215). -/
def execLdAtCA (s : State) : Result := storeTo (highPage s.cpu.c) s.cpu.a s

/-- LD (a16),A (R211). -/
def execLdAtAddrA (a : Word) (s : State) : Result := storeTo a s.cpu.a s

/-- LDH A,(a8) (R212). -/
def execLdhAAtOff (o : Byte) (s : State) : Result := loadFrom .a (highPage o) s

/-- LD A,(C) (R214). -/
def execLdAAtC (s : State) : Result := loadFrom .a (highPage s.cpu.c) s

/-- LD A,(a16) (R210). -/
def execLdAAtAddr (a : Word) (s : State) : Result := loadFrom .a a s

end Sys2Proof.Machine
end

