-- ==== Sys2Proof/Machine/Shift.lean ====
section
/-! DEFINITION. The meanings of the rotates, shifts and SWAP (45_rotate_shift.md R380 to R400). -/

namespace Sys2Proof.Machine

/-- A rotate of A (R381 to R384): Z is cleared. -/
def rotateA (op : ShiftOp) (s : State) : Result := .next (s.onCpu fun c => c.putR8 .a (rotateA8 op c.a c.flagC))

/-- The register form of a CB rotate, shift or SWAP (R380). -/
def shiftRegister (op : ShiftOp) (r : Reg8) (s : State) : Result :=
  .next (s.onCpu fun c => c.putR8 r (shift8 op (c.r8 r) c.flagC))

/-- The memory form of a CB rotate, shift or SWAP (R380): one read, one write. -/
def shiftMemory (op : ShiftOp) (s : State) : Result := updateMemory (shift8 op) s

/-- RLCA (R381). -/
def execRlca (s : State) : Result := rotateA .rlc s

/-- RRCA (R382). -/
def execRrca (s : State) : Result := rotateA .rrc s

/-- RLA (R383). -/
def execRla (s : State) : Result := rotateA .rl s

/-- RRA (R384). -/
def execRra (s : State) : Result := rotateA .rr s

/-- RLC B (R385). -/
def execRlcB (s : State) : Result := shiftRegister .rlc .b s

/-- RLC C (R385). -/
def execRlcC (s : State) : Result := shiftRegister .rlc .c s

/-- RLC D (R385). -/
def execRlcD (s : State) : Result := shiftRegister .rlc .d s

/-- RLC E (R385). -/
def execRlcE (s : State) : Result := shiftRegister .rlc .e s

/-- RLC H (R385). -/
def execRlcH (s : State) : Result := shiftRegister .rlc .h s

/-- RLC L (R385). -/
def execRlcL (s : State) : Result := shiftRegister .rlc .l s

/-- RLC (HL) (R386). -/
def execRlcAtHl (s : State) : Result := shiftMemory .rlc s

/-- RLC A (R385). -/
def execRlcA (s : State) : Result := shiftRegister .rlc .a s

/-- RRC B (R387). -/
def execRrcB (s : State) : Result := shiftRegister .rrc .b s

/-- RRC C (R387). -/
def execRrcC (s : State) : Result := shiftRegister .rrc .c s

/-- RRC D (R387). -/
def execRrcD (s : State) : Result := shiftRegister .rrc .d s

/-- RRC E (R387). -/
def execRrcE (s : State) : Result := shiftRegister .rrc .e s

/-- RRC H (R387). -/
def execRrcH (s : State) : Result := shiftRegister .rrc .h s

/-- RRC L (R387). -/
def execRrcL (s : State) : Result := shiftRegister .rrc .l s

/-- RRC (HL) (R388). -/
def execRrcAtHl (s : State) : Result := shiftMemory .rrc s

/-- RRC A (R387). -/
def execRrcA (s : State) : Result := shiftRegister .rrc .a s

/-- RL B (R389). -/
def execRlB (s : State) : Result := shiftRegister .rl .b s

/-- RL C (R389). -/
def execRlC (s : State) : Result := shiftRegister .rl .c s

/-- RL D (R389). -/
def execRlD (s : State) : Result := shiftRegister .rl .d s

/-- RL E (R389). -/
def execRlE (s : State) : Result := shiftRegister .rl .e s

/-- RL H (R389). -/
def execRlH (s : State) : Result := shiftRegister .rl .h s

/-- RL L (R389). -/
def execRlL (s : State) : Result := shiftRegister .rl .l s

/-- RL (HL) (R390). -/
def execRlAtHl (s : State) : Result := shiftMemory .rl s

/-- RL A (R389). -/
def execRlA (s : State) : Result := shiftRegister .rl .a s

/-- RR B (R391). -/
def execRrB (s : State) : Result := shiftRegister .rr .b s

/-- RR C (R391). -/
def execRrC (s : State) : Result := shiftRegister .rr .c s

/-- RR D (R391). -/
def execRrD (s : State) : Result := shiftRegister .rr .d s

/-- RR E (R391). -/
def execRrE (s : State) : Result := shiftRegister .rr .e s

/-- RR H (R391). -/
def execRrH (s : State) : Result := shiftRegister .rr .h s

/-- RR L (R391). -/
def execRrL (s : State) : Result := shiftRegister .rr .l s

/-- RR (HL) (R392). -/
def execRrAtHl (s : State) : Result := shiftMemory .rr s

/-- RR A (R391). -/
def execRrA (s : State) : Result := shiftRegister .rr .a s

/-- SLA B (R393). -/
def execSlaB (s : State) : Result := shiftRegister .sla .b s

/-- SLA C (R393). -/
def execSlaC (s : State) : Result := shiftRegister .sla .c s

/-- SLA D (R393). -/
def execSlaD (s : State) : Result := shiftRegister .sla .d s

/-- SLA E (R393). -/
def execSlaE (s : State) : Result := shiftRegister .sla .e s

/-- SLA H (R393). -/
def execSlaH (s : State) : Result := shiftRegister .sla .h s

/-- SLA L (R393). -/
def execSlaL (s : State) : Result := shiftRegister .sla .l s

/-- SLA (HL) (R394). -/
def execSlaAtHl (s : State) : Result := shiftMemory .sla s

/-- SLA A (R393). -/
def execSlaA (s : State) : Result := shiftRegister .sla .a s

/-- SRA B (R395). -/
def execSraB (s : State) : Result := shiftRegister .sra .b s

/-- SRA C (R395). -/
def execSraC (s : State) : Result := shiftRegister .sra .c s

/-- SRA D (R395). -/
def execSraD (s : State) : Result := shiftRegister .sra .d s

/-- SRA E (R395). -/
def execSraE (s : State) : Result := shiftRegister .sra .e s

/-- SRA H (R395). -/
def execSraH (s : State) : Result := shiftRegister .sra .h s

/-- SRA L (R395). -/
def execSraL (s : State) : Result := shiftRegister .sra .l s

/-- SRA (HL) (R396). -/
def execSraAtHl (s : State) : Result := shiftMemory .sra s

/-- SRA A (R395). -/
def execSraA (s : State) : Result := shiftRegister .sra .a s

/-- SWAP B (R397). -/
def execSwapB (s : State) : Result := shiftRegister .swap .b s

/-- SWAP C (R397). -/
def execSwapC (s : State) : Result := shiftRegister .swap .c s

/-- SWAP D (R397). -/
def execSwapD (s : State) : Result := shiftRegister .swap .d s

/-- SWAP E (R397). -/
def execSwapE (s : State) : Result := shiftRegister .swap .e s

/-- SWAP H (R397). -/
def execSwapH (s : State) : Result := shiftRegister .swap .h s

/-- SWAP L (R397). -/
def execSwapL (s : State) : Result := shiftRegister .swap .l s

/-- SWAP (HL) (R398). -/
def execSwapAtHl (s : State) : Result := shiftMemory .swap s

/-- SWAP A (R397). -/
def execSwapA (s : State) : Result := shiftRegister .swap .a s

/-- SRL B (R399). -/
def execSrlB (s : State) : Result := shiftRegister .srl .b s

/-- SRL C (R399). -/
def execSrlC (s : State) : Result := shiftRegister .srl .c s

/-- SRL D (R399). -/
def execSrlD (s : State) : Result := shiftRegister .srl .d s

/-- SRL E (R399). -/
def execSrlE (s : State) : Result := shiftRegister .srl .e s

/-- SRL H (R399). -/
def execSrlH (s : State) : Result := shiftRegister .srl .h s

/-- SRL L (R399). -/
def execSrlL (s : State) : Result := shiftRegister .srl .l s

/-- SRL (HL) (R400). -/
def execSrlAtHl (s : State) : Result := shiftMemory .srl s

/-- SRL A (R399). -/
def execSrlA (s : State) : Result := shiftRegister .srl .a s

end Sys2Proof.Machine
end

