-- ==== Sys2Proof/Machine/System.lean ====
section
/-! DEFINITION. The meanings of the miscellaneous and system instructions (48_misc_system.md R480 to R490). -/

namespace Sys2Proof.Machine

/-- An unassigned opcode (R490): it locks the core; PC has advanced past the byte and stays. -/
def lockUp (s : State) : Result := .next s.lock

/-- NOP (R480): nothing. -/
def execNop (s : State) : Result := .next s

/-- STOP (R488): the second byte is skipped without a bus access; a prepared CGB switches speed, otherwise the core
stops. -/
def execStop (s : State) : Result :=
  let past := s.setPc (s.cpu.pc + 1)
  match s.model, s.cpu.key1Prepare with
  | .cgb, true => .next (past.onCpu fun c => { c with key1Speed := !c.key1Speed, key1Prepare := false })
  | _, _ => .next (past.onCpu fun c => { c with stopped := true })

/-- DAA (R481). -/
def execDaa (s : State) : Result := .next (s.onCpu fun c => c.putR8 .a (daa8 c.a c.flagN c.flagH c.flagC))

/-- CPL (R482): Z and C are not written. -/
def execCpl (s : State) : Result :=
  .next (s.onCpu fun c => { c with a := c.a ^^^ 0xFF }.setFlags c.flagZ true true c.flagC)

/-- SCF (R483). -/
def execScf (s : State) : Result := .next (s.onCpu fun c => c.setFlags c.flagZ false false true)

/-- CCF (R484): H is cleared. -/
def execCcf (s : State) : Result := .next (s.onCpu fun c => c.setFlags c.flagZ false false (!c.flagC))

/-- HALT (R487): with IME = 0 and an interrupt pending it does not halt and sets halt_bug. -/
def execHalt (s : State) : Result :=
  .next (s.onCpu fun c =>
    if c.ime = false ∧ c.pending ≠ 0 then { c with haltBug := true } else { c with halted := true })

/-- Unassigned opcode 0xD3 (R490). -/
def execIllegalD3 (s : State) : Result := lockUp s

/-- Unassigned opcode 0xDB (R490). -/
def execIllegalDB (s : State) : Result := lockUp s

/-- Unassigned opcode 0xDD (R490). -/
def execIllegalDD (s : State) : Result := lockUp s

/-- Unassigned opcode 0xE3 (R490). -/
def execIllegalE3 (s : State) : Result := lockUp s

/-- Unassigned opcode 0xE4 (R490). -/
def execIllegalE4 (s : State) : Result := lockUp s

/-- Unassigned opcode 0xEB (R490). -/
def execIllegalEB (s : State) : Result := lockUp s

/-- Unassigned opcode 0xEC (R490). -/
def execIllegalEC (s : State) : Result := lockUp s

/-- Unassigned opcode 0xED (R490). -/
def execIllegalED (s : State) : Result := lockUp s

/-- DI (R485): immediate; it also clears the latch that EI set. -/
def execDi (s : State) : Result := .next (s.onCpu fun c => { c with ime := false, imeLatch := false })

/-- Unassigned opcode 0xF4 (R490). -/
def execIllegalF4 (s : State) : Result := lockUp s

/-- EI (R486): IME itself is promoted by the step (R586). -/
def execEi (s : State) : Result := .next (s.onCpu fun c => { c with imeLatch := true })

/-- Unassigned opcode 0xFC (R490). -/
def execIllegalFC (s : State) : Result := lockUp s

/-- Unassigned opcode 0xFD (R490). -/
def execIllegalFD (s : State) : Result := lockUp s

/-! ## The CB prefix (R489)

The meanings of the CB map (R157), row by row, for the prefix to hand on to. -/

/-- Row 0x of the CB map. -/
def cbMeaningRow0 (lo : BitVec 4) (s : State) : Result :=
  pick16 lo
    (execRlcB s) (execRlcC s) (execRlcD s) (execRlcE s) (execRlcH s) (execRlcL s) (execRlcAtHl s)
    (execRlcA s) (execRrcB s) (execRrcC s) (execRrcD s) (execRrcE s) (execRrcH s) (execRrcL s)
    (execRrcAtHl s) (execRrcA s)

/-- Row 1x of the CB map. -/
def cbMeaningRow1 (lo : BitVec 4) (s : State) : Result :=
  pick16 lo
    (execRlB s) (execRlC s) (execRlD s) (execRlE s) (execRlH s) (execRlL s) (execRlAtHl s) (execRlA s)
    (execRrB s) (execRrC s) (execRrD s) (execRrE s) (execRrH s) (execRrL s) (execRrAtHl s) (execRrA s)

/-- Row 2x of the CB map. -/
def cbMeaningRow2 (lo : BitVec 4) (s : State) : Result :=
  pick16 lo
    (execSlaB s) (execSlaC s) (execSlaD s) (execSlaE s) (execSlaH s) (execSlaL s) (execSlaAtHl s)
    (execSlaA s) (execSraB s) (execSraC s) (execSraD s) (execSraE s) (execSraH s) (execSraL s)
    (execSraAtHl s) (execSraA s)

/-- Row 3x of the CB map. -/
def cbMeaningRow3 (lo : BitVec 4) (s : State) : Result :=
  pick16 lo
    (execSwapB s) (execSwapC s) (execSwapD s) (execSwapE s) (execSwapH s) (execSwapL s) (execSwapAtHl s)
    (execSwapA s) (execSrlB s) (execSrlC s) (execSrlD s) (execSrlE s) (execSrlH s) (execSrlL s)
    (execSrlAtHl s) (execSrlA s)

/-- Row 4x of the CB map. -/
def cbMeaningRow4 (lo : BitVec 4) (s : State) : Result :=
  pick16 lo
    (execBit0B s) (execBit0C s) (execBit0D s) (execBit0E s) (execBit0H s) (execBit0L s) (execBit0AtHl s)
    (execBit0A s) (execBit1B s) (execBit1C s) (execBit1D s) (execBit1E s) (execBit1H s) (execBit1L s)
    (execBit1AtHl s) (execBit1A s)

/-- Row 5x of the CB map. -/
def cbMeaningRow5 (lo : BitVec 4) (s : State) : Result :=
  pick16 lo
    (execBit2B s) (execBit2C s) (execBit2D s) (execBit2E s) (execBit2H s) (execBit2L s) (execBit2AtHl s)
    (execBit2A s) (execBit3B s) (execBit3C s) (execBit3D s) (execBit3E s) (execBit3H s) (execBit3L s)
    (execBit3AtHl s) (execBit3A s)

/-- Row 6x of the CB map. -/
def cbMeaningRow6 (lo : BitVec 4) (s : State) : Result :=
  pick16 lo
    (execBit4B s) (execBit4C s) (execBit4D s) (execBit4E s) (execBit4H s) (execBit4L s) (execBit4AtHl s)
    (execBit4A s) (execBit5B s) (execBit5C s) (execBit5D s) (execBit5E s) (execBit5H s) (execBit5L s)
    (execBit5AtHl s) (execBit5A s)

/-- Row 7x of the CB map. -/
def cbMeaningRow7 (lo : BitVec 4) (s : State) : Result :=
  pick16 lo
    (execBit6B s) (execBit6C s) (execBit6D s) (execBit6E s) (execBit6H s) (execBit6L s) (execBit6AtHl s)
    (execBit6A s) (execBit7B s) (execBit7C s) (execBit7D s) (execBit7E s) (execBit7H s) (execBit7L s)
    (execBit7AtHl s) (execBit7A s)

/-- Row 8x of the CB map. -/
def cbMeaningRow8 (lo : BitVec 4) (s : State) : Result :=
  pick16 lo
    (execRes0B s) (execRes0C s) (execRes0D s) (execRes0E s) (execRes0H s) (execRes0L s) (execRes0AtHl s)
    (execRes0A s) (execRes1B s) (execRes1C s) (execRes1D s) (execRes1E s) (execRes1H s) (execRes1L s)
    (execRes1AtHl s) (execRes1A s)

/-- Row 9x of the CB map. -/
def cbMeaningRow9 (lo : BitVec 4) (s : State) : Result :=
  pick16 lo
    (execRes2B s) (execRes2C s) (execRes2D s) (execRes2E s) (execRes2H s) (execRes2L s) (execRes2AtHl s)
    (execRes2A s) (execRes3B s) (execRes3C s) (execRes3D s) (execRes3E s) (execRes3H s) (execRes3L s)
    (execRes3AtHl s) (execRes3A s)

/-- Row Ax of the CB map. -/
def cbMeaningRowA (lo : BitVec 4) (s : State) : Result :=
  pick16 lo
    (execRes4B s) (execRes4C s) (execRes4D s) (execRes4E s) (execRes4H s) (execRes4L s) (execRes4AtHl s)
    (execRes4A s) (execRes5B s) (execRes5C s) (execRes5D s) (execRes5E s) (execRes5H s) (execRes5L s)
    (execRes5AtHl s) (execRes5A s)

/-- Row Bx of the CB map. -/
def cbMeaningRowB (lo : BitVec 4) (s : State) : Result :=
  pick16 lo
    (execRes6B s) (execRes6C s) (execRes6D s) (execRes6E s) (execRes6H s) (execRes6L s) (execRes6AtHl s)
    (execRes6A s) (execRes7B s) (execRes7C s) (execRes7D s) (execRes7E s) (execRes7H s) (execRes7L s)
    (execRes7AtHl s) (execRes7A s)

/-- Row Cx of the CB map. -/
def cbMeaningRowC (lo : BitVec 4) (s : State) : Result :=
  pick16 lo
    (execSet0B s) (execSet0C s) (execSet0D s) (execSet0E s) (execSet0H s) (execSet0L s) (execSet0AtHl s)
    (execSet0A s) (execSet1B s) (execSet1C s) (execSet1D s) (execSet1E s) (execSet1H s) (execSet1L s)
    (execSet1AtHl s) (execSet1A s)

/-- Row Dx of the CB map. -/
def cbMeaningRowD (lo : BitVec 4) (s : State) : Result :=
  pick16 lo
    (execSet2B s) (execSet2C s) (execSet2D s) (execSet2E s) (execSet2H s) (execSet2L s) (execSet2AtHl s)
    (execSet2A s) (execSet3B s) (execSet3C s) (execSet3D s) (execSet3E s) (execSet3H s) (execSet3L s)
    (execSet3AtHl s) (execSet3A s)

/-- Row Ex of the CB map. -/
def cbMeaningRowE (lo : BitVec 4) (s : State) : Result :=
  pick16 lo
    (execSet4B s) (execSet4C s) (execSet4D s) (execSet4E s) (execSet4H s) (execSet4L s) (execSet4AtHl s)
    (execSet4A s) (execSet5B s) (execSet5C s) (execSet5D s) (execSet5E s) (execSet5H s) (execSet5L s)
    (execSet5AtHl s) (execSet5A s)

/-- Row Fx of the CB map. -/
def cbMeaningRowF (lo : BitVec 4) (s : State) : Result :=
  pick16 lo
    (execSet6B s) (execSet6C s) (execSet6D s) (execSet6E s) (execSet6H s) (execSet6L s) (execSet6AtHl s)
    (execSet6A s) (execSet7B s) (execSet7C s) (execSet7D s) (execSet7E s) (execSet7H s) (execSet7L s)
    (execSet7AtHl s) (execSet7A s)

/-- The meaning of the CB instruction at a second byte (R157). -/
def cbMeaning (op2 : Byte) (s : State) : Result :=
  pick16 (hiNibble op2)
    (cbMeaningRow0 (loNibble op2) s) (cbMeaningRow1 (loNibble op2) s) (cbMeaningRow2 (loNibble op2) s)
    (cbMeaningRow3 (loNibble op2) s) (cbMeaningRow4 (loNibble op2) s) (cbMeaningRow5 (loNibble op2) s)
    (cbMeaningRow6 (loNibble op2) s) (cbMeaningRow7 (loNibble op2) s) (cbMeaningRow8 (loNibble op2) s)
    (cbMeaningRow9 (loNibble op2) s) (cbMeaningRowA (loNibble op2) s) (cbMeaningRowB (loNibble op2) s)
    (cbMeaningRowC (loNibble op2) s) (cbMeaningRowD (loNibble op2) s) (cbMeaningRowE (loNibble op2) s)
    (cbMeaningRowF (loNibble op2) s)

/-- The CB prefix (R489): `op2 <- Fetch8()`, then the CB instruction op2. -/
def execPrefixCb (s : State) : Result := cbMeaning s.fetch8.1 s.fetch8.2

end Sys2Proof.Machine
end

