-- ==== Sys2Proof/WellFormed.lean ====
section
/-! DEFINITION. Which terms of `Instr` are whole instructions. Every field of a constructor is as wide as
its encoding, so no operand can be out of range; the one check is that the bare CB prefix is not an
instruction of its own (30_encoding.md R167: "it and the following byte form one instruction"). -/

namespace Sys2Proof

/-- `i` is a whole instruction: not the bare prefix byte 0xCB (R167). -/
def WellFormed (i : Instr) : Bool := i != .prefixCb

end Sys2Proof
end

