-- ==== Sys2Proof/Decode.lean ====
section
/-! DEFINITION. The decoder, total on every list of bytes, and after it the encoder.

Decoding is two-level (30_encoding.md R150, R157, R163, R167, R169): the opcode byte selects an entry of
the primary map, and after 0xCB the second byte selects an entry of the CB map. Both maps stand below row
by row as R163 and R157 print them. The only thing the decoder rejects is a byte list that ends inside an
instruction; it rejects it by name. -/

namespace Sys2Proof

open Sys2Proof.Machine (wordOf hiByte loByte hiNibble loNibble pick16)

/-- What an opcode byte of the primary map asks for after it (R150). -/
inductive Entry where
  /-- A 1-byte instruction. -/
  | one (i : Instr)
  /-- An opcode and one immediate byte (R158, R160, R161). -/
  | imm8 (f : Byte → Instr)
  /-- An opcode and two immediate bytes, low byte first (R159). -/
  | imm16 (f : Word → Instr)
  /-- STOP: an opcode and a byte that is skipped unread (R165). -/
  | skip (i : Instr)
  /-- 0xCB: the next byte selects an entry of the CB map (R167). -/
  | cb

/-! ## The primary map (R163) -/

/-- Row 0x of the primary map. -/
def primaryRow0 (lo : BitVec 4) : Entry :=
  pick16 lo
    (.one .nop) (.imm16 .ldBcImm) (.one .ldAtBcA) (.one .incBc) (.one .incB) (.one .decB) (.imm8 .ldBImm)
    (.one .rlca) (.imm16 .ldAtAddrSp) (.one .addHlBc) (.one .ldAAtBc) (.one .decBc) (.one .incC) (.one .decC)
    (.imm8 .ldCImm) (.one .rrca)

/-- Row 1x of the primary map. -/
def primaryRow1 (lo : BitVec 4) : Entry :=
  pick16 lo
    (.skip .stop) (.imm16 .ldDeImm) (.one .ldAtDeA) (.one .incDe) (.one .incD) (.one .decD) (.imm8 .ldDImm)
    (.one .rla) (.imm8 .jr) (.one .addHlDe) (.one .ldAAtDe) (.one .decDe) (.one .incE) (.one .decE)
    (.imm8 .ldEImm) (.one .rra)

/-- Row 2x of the primary map. -/
def primaryRow2 (lo : BitVec 4) : Entry :=
  pick16 lo
    (.imm8 .jrNz) (.imm16 .ldHlImm) (.one .ldAtHlIncA) (.one .incHl) (.one .incH) (.one .decH)
    (.imm8 .ldHImm) (.one .daa) (.imm8 .jrZ) (.one .addHlHl) (.one .ldAAtHlInc) (.one .decHl) (.one .incL)
    (.one .decL) (.imm8 .ldLImm) (.one .cpl)

/-- Row 3x of the primary map. -/
def primaryRow3 (lo : BitVec 4) : Entry :=
  pick16 lo
    (.imm8 .jrNc) (.imm16 .ldSpImm) (.one .ldAtHlDecA) (.one .incSp) (.one .incAtHl) (.one .decAtHl)
    (.imm8 .ldAtHlImm) (.one .scf) (.imm8 .jrC) (.one .addHlSp) (.one .ldAAtHlDec) (.one .decSp) (.one .incA)
    (.one .decA) (.imm8 .ldAImm) (.one .ccf)

/-- Row 4x of the primary map. -/
def primaryRow4 (lo : BitVec 4) : Entry :=
  pick16 lo
    (.one .ldBB) (.one .ldBC) (.one .ldBD) (.one .ldBE) (.one .ldBH) (.one .ldBL) (.one .ldBAtHl)
    (.one .ldBA) (.one .ldCB) (.one .ldCC) (.one .ldCD) (.one .ldCE) (.one .ldCH) (.one .ldCL)
    (.one .ldCAtHl) (.one .ldCA)

/-- Row 5x of the primary map. -/
def primaryRow5 (lo : BitVec 4) : Entry :=
  pick16 lo
    (.one .ldDB) (.one .ldDC) (.one .ldDD) (.one .ldDE) (.one .ldDH) (.one .ldDL) (.one .ldDAtHl)
    (.one .ldDA) (.one .ldEB) (.one .ldEC) (.one .ldED) (.one .ldEE) (.one .ldEH) (.one .ldEL)
    (.one .ldEAtHl) (.one .ldEA)

/-- Row 6x of the primary map. -/
def primaryRow6 (lo : BitVec 4) : Entry :=
  pick16 lo
    (.one .ldHB) (.one .ldHC) (.one .ldHD) (.one .ldHE) (.one .ldHH) (.one .ldHL) (.one .ldHAtHl)
    (.one .ldHA) (.one .ldLB) (.one .ldLC) (.one .ldLD) (.one .ldLE) (.one .ldLH) (.one .ldLL)
    (.one .ldLAtHl) (.one .ldLA)

/-- Row 7x of the primary map. -/
def primaryRow7 (lo : BitVec 4) : Entry :=
  pick16 lo
    (.one .ldAtHlB) (.one .ldAtHlC) (.one .ldAtHlD) (.one .ldAtHlE) (.one .ldAtHlH) (.one .ldAtHlL)
    (.one .halt) (.one .ldAtHlA) (.one .ldAB) (.one .ldAC) (.one .ldAD) (.one .ldAE) (.one .ldAH)
    (.one .ldAL) (.one .ldAAtHl) (.one .ldAA)

/-- Row 8x of the primary map. -/
def primaryRow8 (lo : BitVec 4) : Entry :=
  pick16 lo
    (.one .addAB) (.one .addAC) (.one .addAD) (.one .addAE) (.one .addAH) (.one .addAL) (.one .addAAtHl)
    (.one .addAA) (.one .adcAB) (.one .adcAC) (.one .adcAD) (.one .adcAE) (.one .adcAH) (.one .adcAL)
    (.one .adcAAtHl) (.one .adcAA)

/-- Row 9x of the primary map. -/
def primaryRow9 (lo : BitVec 4) : Entry :=
  pick16 lo
    (.one .subB) (.one .subC) (.one .subD) (.one .subE) (.one .subH) (.one .subL) (.one .subAtHl)
    (.one .subA) (.one .sbcAB) (.one .sbcAC) (.one .sbcAD) (.one .sbcAE) (.one .sbcAH) (.one .sbcAL)
    (.one .sbcAAtHl) (.one .sbcAA)

/-- Row Ax of the primary map. -/
def primaryRowA (lo : BitVec 4) : Entry :=
  pick16 lo
    (.one .andB) (.one .andC) (.one .andD) (.one .andE) (.one .andH) (.one .andL) (.one .andAtHl)
    (.one .andA) (.one .xorB) (.one .xorC) (.one .xorD) (.one .xorE) (.one .xorH) (.one .xorL)
    (.one .xorAtHl) (.one .xorA)

/-- Row Bx of the primary map. -/
def primaryRowB (lo : BitVec 4) : Entry :=
  pick16 lo
    (.one .orB) (.one .orC) (.one .orD) (.one .orE) (.one .orH) (.one .orL) (.one .orAtHl) (.one .orA)
    (.one .cpB) (.one .cpC) (.one .cpD) (.one .cpE) (.one .cpH) (.one .cpL) (.one .cpAtHl) (.one .cpA)

/-- Row Cx of the primary map. -/
def primaryRowC (lo : BitVec 4) : Entry :=
  pick16 lo
    (.one .retNz) (.one .popBc) (.imm16 .jpNz) (.imm16 .jp) (.imm16 .callNz) (.one .pushBc) (.imm8 .addAImm)
    (.one .rst00) (.one .retZ) (.one .ret) (.imm16 .jpZ) .cb (.imm16 .callZ) (.imm16 .call) (.imm8 .adcAImm)
    (.one .rst08)

/-- Row Dx of the primary map. -/
def primaryRowD (lo : BitVec 4) : Entry :=
  pick16 lo
    (.one .retNc) (.one .popDe) (.imm16 .jpNc) (.one .illegalD3) (.imm16 .callNc) (.one .pushDe)
    (.imm8 .subImm) (.one .rst10) (.one .retC) (.one .reti) (.imm16 .jpC) (.one .illegalDB) (.imm16 .callC)
    (.one .illegalDD) (.imm8 .sbcAImm) (.one .rst18)

/-- Row Ex of the primary map. -/
def primaryRowE (lo : BitVec 4) : Entry :=
  pick16 lo
    (.imm8 .ldhAtOffA) (.one .popHl) (.one .ldAtCA) (.one .illegalE3) (.one .illegalE4) (.one .pushHl)
    (.imm8 .andImm) (.one .rst20) (.imm8 .addSpImm) (.one .jpHl) (.imm16 .ldAtAddrA) (.one .illegalEB)
    (.one .illegalEC) (.one .illegalED) (.imm8 .xorImm) (.one .rst28)

/-- Row Fx of the primary map. -/
def primaryRowF (lo : BitVec 4) : Entry :=
  pick16 lo
    (.imm8 .ldhAAtOff) (.one .popAf) (.one .ldAAtC) (.one .di) (.one .illegalF4) (.one .pushAf)
    (.imm8 .orImm) (.one .rst30) (.imm8 .ldHlSpImm) (.one .ldSpHl) (.imm16 .ldAAtAddr) (.one .ei)
    (.one .illegalFC) (.one .illegalFD) (.imm8 .cpImm) (.one .rst38)

/-- The entry of the primary map at an opcode byte (R163). -/
def primaryEntry (op : Byte) : Entry :=
  pick16 (hiNibble op)
    (primaryRow0 (loNibble op)) (primaryRow1 (loNibble op)) (primaryRow2 (loNibble op))
    (primaryRow3 (loNibble op)) (primaryRow4 (loNibble op)) (primaryRow5 (loNibble op))
    (primaryRow6 (loNibble op)) (primaryRow7 (loNibble op)) (primaryRow8 (loNibble op))
    (primaryRow9 (loNibble op)) (primaryRowA (loNibble op)) (primaryRowB (loNibble op))
    (primaryRowC (loNibble op)) (primaryRowD (loNibble op)) (primaryRowE (loNibble op))
    (primaryRowF (loNibble op))

/-! ## The CB map (R157) -/

/-- Row 0x of the CB map. -/
def cbRow0 (lo : BitVec 4) : Instr :=
  pick16 lo
    .rlcB .rlcC .rlcD .rlcE .rlcH .rlcL .rlcAtHl .rlcA .rrcB .rrcC .rrcD .rrcE .rrcH .rrcL .rrcAtHl .rrcA

/-- Row 1x of the CB map. -/
def cbRow1 (lo : BitVec 4) : Instr :=
  pick16 lo
    .rlB .rlC .rlD .rlE .rlH .rlL .rlAtHl .rlA .rrB .rrC .rrD .rrE .rrH .rrL .rrAtHl .rrA

/-- Row 2x of the CB map. -/
def cbRow2 (lo : BitVec 4) : Instr :=
  pick16 lo
    .slaB .slaC .slaD .slaE .slaH .slaL .slaAtHl .slaA .sraB .sraC .sraD .sraE .sraH .sraL .sraAtHl .sraA

/-- Row 3x of the CB map. -/
def cbRow3 (lo : BitVec 4) : Instr :=
  pick16 lo
    .swapB .swapC .swapD .swapE .swapH .swapL .swapAtHl .swapA .srlB .srlC .srlD .srlE .srlH .srlL .srlAtHl
    .srlA

/-- Row 4x of the CB map. -/
def cbRow4 (lo : BitVec 4) : Instr :=
  pick16 lo
    .bit0B .bit0C .bit0D .bit0E .bit0H .bit0L .bit0AtHl .bit0A .bit1B .bit1C .bit1D .bit1E .bit1H .bit1L
    .bit1AtHl .bit1A

/-- Row 5x of the CB map. -/
def cbRow5 (lo : BitVec 4) : Instr :=
  pick16 lo
    .bit2B .bit2C .bit2D .bit2E .bit2H .bit2L .bit2AtHl .bit2A .bit3B .bit3C .bit3D .bit3E .bit3H .bit3L
    .bit3AtHl .bit3A

/-- Row 6x of the CB map. -/
def cbRow6 (lo : BitVec 4) : Instr :=
  pick16 lo
    .bit4B .bit4C .bit4D .bit4E .bit4H .bit4L .bit4AtHl .bit4A .bit5B .bit5C .bit5D .bit5E .bit5H .bit5L
    .bit5AtHl .bit5A

/-- Row 7x of the CB map. -/
def cbRow7 (lo : BitVec 4) : Instr :=
  pick16 lo
    .bit6B .bit6C .bit6D .bit6E .bit6H .bit6L .bit6AtHl .bit6A .bit7B .bit7C .bit7D .bit7E .bit7H .bit7L
    .bit7AtHl .bit7A

/-- Row 8x of the CB map. -/
def cbRow8 (lo : BitVec 4) : Instr :=
  pick16 lo
    .res0B .res0C .res0D .res0E .res0H .res0L .res0AtHl .res0A .res1B .res1C .res1D .res1E .res1H .res1L
    .res1AtHl .res1A

/-- Row 9x of the CB map. -/
def cbRow9 (lo : BitVec 4) : Instr :=
  pick16 lo
    .res2B .res2C .res2D .res2E .res2H .res2L .res2AtHl .res2A .res3B .res3C .res3D .res3E .res3H .res3L
    .res3AtHl .res3A

/-- Row Ax of the CB map. -/
def cbRowA (lo : BitVec 4) : Instr :=
  pick16 lo
    .res4B .res4C .res4D .res4E .res4H .res4L .res4AtHl .res4A .res5B .res5C .res5D .res5E .res5H .res5L
    .res5AtHl .res5A

/-- Row Bx of the CB map. -/
def cbRowB (lo : BitVec 4) : Instr :=
  pick16 lo
    .res6B .res6C .res6D .res6E .res6H .res6L .res6AtHl .res6A .res7B .res7C .res7D .res7E .res7H .res7L
    .res7AtHl .res7A

/-- Row Cx of the CB map. -/
def cbRowC (lo : BitVec 4) : Instr :=
  pick16 lo
    .set0B .set0C .set0D .set0E .set0H .set0L .set0AtHl .set0A .set1B .set1C .set1D .set1E .set1H .set1L
    .set1AtHl .set1A

/-- Row Dx of the CB map. -/
def cbRowD (lo : BitVec 4) : Instr :=
  pick16 lo
    .set2B .set2C .set2D .set2E .set2H .set2L .set2AtHl .set2A .set3B .set3C .set3D .set3E .set3H .set3L
    .set3AtHl .set3A

/-- Row Ex of the CB map. -/
def cbRowE (lo : BitVec 4) : Instr :=
  pick16 lo
    .set4B .set4C .set4D .set4E .set4H .set4L .set4AtHl .set4A .set5B .set5C .set5D .set5E .set5H .set5L
    .set5AtHl .set5A

/-- Row Fx of the CB map. -/
def cbRowF (lo : BitVec 4) : Instr :=
  pick16 lo
    .set6B .set6C .set6D .set6E .set6H .set6L .set6AtHl .set6A .set7B .set7C .set7D .set7E .set7H .set7L
    .set7AtHl .set7A

/-- The instruction of the CB map at a second byte (R157). -/
def cbEntry (op2 : Byte) : Instr :=
  pick16 (hiNibble op2)
    (cbRow0 (loNibble op2)) (cbRow1 (loNibble op2)) (cbRow2 (loNibble op2)) (cbRow3 (loNibble op2))
    (cbRow4 (loNibble op2)) (cbRow5 (loNibble op2)) (cbRow6 (loNibble op2)) (cbRow7 (loNibble op2))
    (cbRow8 (loNibble op2)) (cbRow9 (loNibble op2)) (cbRowA (loNibble op2)) (cbRowB (loNibble op2))
    (cbRowC (loNibble op2)) (cbRowD (loNibble op2)) (cbRowE (loNibble op2)) (cbRowF (loNibble op2))

/-! ## Decoding a byte list -/

/-- What the decoder answers. -/
inductive Decoded where
  /-- An instruction, and the bytes after it. -/
  | ok (i : Instr) (rest : List Byte)
  /-- Rejected: the list ends before the instruction does. -/
  | truncated
deriving DecidableEq, Repr

/-- The instruction at the head of a byte list (R150, R169). A list that holds the byte 0xCB and nothing
after it is the primary map's own entry PREFIX CB; 0xCB with a byte after it is one CB instruction (R167). -/
def decode : List Byte → Decoded
  | [] => .truncated
  | op :: rest =>
    match primaryEntry op, rest with
    | .one i, _ => .ok i rest
    | .imm8 f, v :: rest' => .ok (f v) rest'
    | .imm8 _, [] => .truncated
    | .imm16 f, lo :: hi :: rest' => .ok (f (wordOf hi lo)) rest'
    | .imm16 _, _ => .truncated
    | .skip i, _ :: rest' => .ok i rest'
    | .skip _, [] => .truncated
    | .cb, op2 :: rest' => .ok (cbEntry op2) rest'
    | .cb, [] => .ok .prefixCb []

/-- The length in bytes of the instruction that an opcode byte opens (R150). -/
def lengthOf (op : Byte) : Nat :=
  match primaryEntry op with
  | .one _ => 1
  | .imm8 _ => 2
  | .imm16 _ => 3
  | .skip _ => 2
  | .cb => 2

/-! ## The opcode table's words -/

/-- The bytes of a row of spec/opcode_table.json from its bits, in the order the hardware stores them. The
table numbers a CB row as one 16-bit number with the prefix 0xCB in the high byte (log entry 8); otherwise
bit 0 is the least significant bit of the first byte and later bytes count on from it. -/
def tableBytes (nbits w : Nat) : List Byte :=
  if nbits ≤ 8 then [BitVec.ofNat 8 w]
  else if nbits ≤ 16 then
    if w / 256 % 256 = 0xCB then [0xCB, BitVec.ofNat 8 w]
    else [BitVec.ofNat 8 w, BitVec.ofNat 8 (w / 256)]
  else [BitVec.ofNat 8 w, BitVec.ofNat 8 (w / 256), BitVec.ofNat 8 (w / 65536)]

/-- The bytes of a row laid out whole: its bytes, then zero for each operand byte the table gives no bits.
The row PREFIX_CB is one byte long in the table, so nothing follows it. -/
def tableLayout (nbits w : Nat) : List Byte :=
  let bytes := tableBytes nbits w
  if bytes = [0xCB] then bytes else bytes ++ [0, 0]

/-- The instruction the decoder reads from a table row's word. -/
def decodeTableWord (nbits w : Nat) : Option Instr :=
  match decode (tableLayout nbits w) with
  | .ok i _ => some i
  | .truncated => none

/-! ## The encoder -/

/-- The bytes of an instruction, in memory order (R150, R158 to R165). STOP's second byte is written 0x00
(R165). -/
def encode : Instr → List Byte
  | .nop => [0x00]
  | .ldBcImm d => [0x01, loByte d, hiByte d]
  | .ldAtBcA => [0x02]
  | .incBc => [0x03]
  | .incB => [0x04]
  | .decB => [0x05]
  | .ldBImm d => [0x06, d]
  | .rlca => [0x07]
  | .ldAtAddrSp a => [0x08, loByte a, hiByte a]
  | .addHlBc => [0x09]
  | .ldAAtBc => [0x0A]
  | .decBc => [0x0B]
  | .incC => [0x0C]
  | .decC => [0x0D]
  | .ldCImm d => [0x0E, d]
  | .rrca => [0x0F]
  | .stop => [0x10, 0x00]
  | .ldDeImm d => [0x11, loByte d, hiByte d]
  | .ldAtDeA => [0x12]
  | .incDe => [0x13]
  | .incD => [0x14]
  | .decD => [0x15]
  | .ldDImm d => [0x16, d]
  | .rla => [0x17]
  | .jr e => [0x18, e]
  | .addHlDe => [0x19]
  | .ldAAtDe => [0x1A]
  | .decDe => [0x1B]
  | .incE => [0x1C]
  | .decE => [0x1D]
  | .ldEImm d => [0x1E, d]
  | .rra => [0x1F]
  | .jrNz e => [0x20, e]
  | .ldHlImm d => [0x21, loByte d, hiByte d]
  | .ldAtHlIncA => [0x22]
  | .incHl => [0x23]
  | .incH => [0x24]
  | .decH => [0x25]
  | .ldHImm d => [0x26, d]
  | .daa => [0x27]
  | .jrZ e => [0x28, e]
  | .addHlHl => [0x29]
  | .ldAAtHlInc => [0x2A]
  | .decHl => [0x2B]
  | .incL => [0x2C]
  | .decL => [0x2D]
  | .ldLImm d => [0x2E, d]
  | .cpl => [0x2F]
  | .jrNc e => [0x30, e]
  | .ldSpImm d => [0x31, loByte d, hiByte d]
  | .ldAtHlDecA => [0x32]
  | .incSp => [0x33]
  | .incAtHl => [0x34]
  | .decAtHl => [0x35]
  | .ldAtHlImm d => [0x36, d]
  | .scf => [0x37]
  | .jrC e => [0x38, e]
  | .addHlSp => [0x39]
  | .ldAAtHlDec => [0x3A]
  | .decSp => [0x3B]
  | .incA => [0x3C]
  | .decA => [0x3D]
  | .ldAImm d => [0x3E, d]
  | .ccf => [0x3F]
  | .ldBB => [0x40]
  | .ldBC => [0x41]
  | .ldBD => [0x42]
  | .ldBE => [0x43]
  | .ldBH => [0x44]
  | .ldBL => [0x45]
  | .ldBAtHl => [0x46]
  | .ldBA => [0x47]
  | .ldCB => [0x48]
  | .ldCC => [0x49]
  | .ldCD => [0x4A]
  | .ldCE => [0x4B]
  | .ldCH => [0x4C]
  | .ldCL => [0x4D]
  | .ldCAtHl => [0x4E]
  | .ldCA => [0x4F]
  | .ldDB => [0x50]
  | .ldDC => [0x51]
  | .ldDD => [0x52]
  | .ldDE => [0x53]
  | .ldDH => [0x54]
  | .ldDL => [0x55]
  | .ldDAtHl => [0x56]
  | .ldDA => [0x57]
  | .ldEB => [0x58]
  | .ldEC => [0x59]
  | .ldED => [0x5A]
  | .ldEE => [0x5B]
  | .ldEH => [0x5C]
  | .ldEL => [0x5D]
  | .ldEAtHl => [0x5E]
  | .ldEA => [0x5F]
  | .ldHB => [0x60]
  | .ldHC => [0x61]
  | .ldHD => [0x62]
  | .ldHE => [0x63]
  | .ldHH => [0x64]
  | .ldHL => [0x65]
  | .ldHAtHl => [0x66]
  | .ldHA => [0x67]
  | .ldLB => [0x68]
  | .ldLC => [0x69]
  | .ldLD => [0x6A]
  | .ldLE => [0x6B]
  | .ldLH => [0x6C]
  | .ldLL => [0x6D]
  | .ldLAtHl => [0x6E]
  | .ldLA => [0x6F]
  | .ldAtHlB => [0x70]
  | .ldAtHlC => [0x71]
  | .ldAtHlD => [0x72]
  | .ldAtHlE => [0x73]
  | .ldAtHlH => [0x74]
  | .ldAtHlL => [0x75]
  | .halt => [0x76]
  | .ldAtHlA => [0x77]
  | .ldAB => [0x78]
  | .ldAC => [0x79]
  | .ldAD => [0x7A]
  | .ldAE => [0x7B]
  | .ldAH => [0x7C]
  | .ldAL => [0x7D]
  | .ldAAtHl => [0x7E]
  | .ldAA => [0x7F]
  | .addAB => [0x80]
  | .addAC => [0x81]
  | .addAD => [0x82]
  | .addAE => [0x83]
  | .addAH => [0x84]
  | .addAL => [0x85]
  | .addAAtHl => [0x86]
  | .addAA => [0x87]
  | .adcAB => [0x88]
  | .adcAC => [0x89]
  | .adcAD => [0x8A]
  | .adcAE => [0x8B]
  | .adcAH => [0x8C]
  | .adcAL => [0x8D]
  | .adcAAtHl => [0x8E]
  | .adcAA => [0x8F]
  | .subB => [0x90]
  | .subC => [0x91]
  | .subD => [0x92]
  | .subE => [0x93]
  | .subH => [0x94]
  | .subL => [0x95]
  | .subAtHl => [0x96]
  | .subA => [0x97]
  | .sbcAB => [0x98]
  | .sbcAC => [0x99]
  | .sbcAD => [0x9A]
  | .sbcAE => [0x9B]
  | .sbcAH => [0x9C]
  | .sbcAL => [0x9D]
  | .sbcAAtHl => [0x9E]
  | .sbcAA => [0x9F]
  | .andB => [0xA0]
  | .andC => [0xA1]
  | .andD => [0xA2]
  | .andE => [0xA3]
  | .andH => [0xA4]
  | .andL => [0xA5]
  | .andAtHl => [0xA6]
  | .andA => [0xA7]
  | .xorB => [0xA8]
  | .xorC => [0xA9]
  | .xorD => [0xAA]
  | .xorE => [0xAB]
  | .xorH => [0xAC]
  | .xorL => [0xAD]
  | .xorAtHl => [0xAE]
  | .xorA => [0xAF]
  | .orB => [0xB0]
  | .orC => [0xB1]
  | .orD => [0xB2]
  | .orE => [0xB3]
  | .orH => [0xB4]
  | .orL => [0xB5]
  | .orAtHl => [0xB6]
  | .orA => [0xB7]
  | .cpB => [0xB8]
  | .cpC => [0xB9]
  | .cpD => [0xBA]
  | .cpE => [0xBB]
  | .cpH => [0xBC]
  | .cpL => [0xBD]
  | .cpAtHl => [0xBE]
  | .cpA => [0xBF]
  | .retNz => [0xC0]
  | .popBc => [0xC1]
  | .jpNz a => [0xC2, loByte a, hiByte a]
  | .jp a => [0xC3, loByte a, hiByte a]
  | .callNz a => [0xC4, loByte a, hiByte a]
  | .pushBc => [0xC5]
  | .addAImm d => [0xC6, d]
  | .rst00 => [0xC7]
  | .retZ => [0xC8]
  | .ret => [0xC9]
  | .jpZ a => [0xCA, loByte a, hiByte a]
  | .prefixCb => [0xCB]
  | .callZ a => [0xCC, loByte a, hiByte a]
  | .call a => [0xCD, loByte a, hiByte a]
  | .adcAImm d => [0xCE, d]
  | .rst08 => [0xCF]
  | .retNc => [0xD0]
  | .popDe => [0xD1]
  | .jpNc a => [0xD2, loByte a, hiByte a]
  | .illegalD3 => [0xD3]
  | .callNc a => [0xD4, loByte a, hiByte a]
  | .pushDe => [0xD5]
  | .subImm d => [0xD6, d]
  | .rst10 => [0xD7]
  | .retC => [0xD8]
  | .reti => [0xD9]
  | .jpC a => [0xDA, loByte a, hiByte a]
  | .illegalDB => [0xDB]
  | .callC a => [0xDC, loByte a, hiByte a]
  | .illegalDD => [0xDD]
  | .sbcAImm d => [0xDE, d]
  | .rst18 => [0xDF]
  | .ldhAtOffA o => [0xE0, o]
  | .popHl => [0xE1]
  | .ldAtCA => [0xE2]
  | .illegalE3 => [0xE3]
  | .illegalE4 => [0xE4]
  | .pushHl => [0xE5]
  | .andImm d => [0xE6, d]
  | .rst20 => [0xE7]
  | .addSpImm e => [0xE8, e]
  | .jpHl => [0xE9]
  | .ldAtAddrA a => [0xEA, loByte a, hiByte a]
  | .illegalEB => [0xEB]
  | .illegalEC => [0xEC]
  | .illegalED => [0xED]
  | .xorImm d => [0xEE, d]
  | .rst28 => [0xEF]
  | .ldhAAtOff o => [0xF0, o]
  | .popAf => [0xF1]
  | .ldAAtC => [0xF2]
  | .di => [0xF3]
  | .illegalF4 => [0xF4]
  | .pushAf => [0xF5]
  | .orImm d => [0xF6, d]
  | .rst30 => [0xF7]
  | .ldHlSpImm e => [0xF8, e]
  | .ldSpHl => [0xF9]
  | .ldAAtAddr a => [0xFA, loByte a, hiByte a]
  | .ei => [0xFB]
  | .illegalFC => [0xFC]
  | .illegalFD => [0xFD]
  | .cpImm d => [0xFE, d]
  | .rst38 => [0xFF]
  | .rlcB => [0xCB, 0x00]
  | .rlcC => [0xCB, 0x01]
  | .rlcD => [0xCB, 0x02]
  | .rlcE => [0xCB, 0x03]
  | .rlcH => [0xCB, 0x04]
  | .rlcL => [0xCB, 0x05]
  | .rlcAtHl => [0xCB, 0x06]
  | .rlcA => [0xCB, 0x07]
  | .rrcB => [0xCB, 0x08]
  | .rrcC => [0xCB, 0x09]
  | .rrcD => [0xCB, 0x0A]
  | .rrcE => [0xCB, 0x0B]
  | .rrcH => [0xCB, 0x0C]
  | .rrcL => [0xCB, 0x0D]
  | .rrcAtHl => [0xCB, 0x0E]
  | .rrcA => [0xCB, 0x0F]
  | .rlB => [0xCB, 0x10]
  | .rlC => [0xCB, 0x11]
  | .rlD => [0xCB, 0x12]
  | .rlE => [0xCB, 0x13]
  | .rlH => [0xCB, 0x14]
  | .rlL => [0xCB, 0x15]
  | .rlAtHl => [0xCB, 0x16]
  | .rlA => [0xCB, 0x17]
  | .rrB => [0xCB, 0x18]
  | .rrC => [0xCB, 0x19]
  | .rrD => [0xCB, 0x1A]
  | .rrE => [0xCB, 0x1B]
  | .rrH => [0xCB, 0x1C]
  | .rrL => [0xCB, 0x1D]
  | .rrAtHl => [0xCB, 0x1E]
  | .rrA => [0xCB, 0x1F]
  | .slaB => [0xCB, 0x20]
  | .slaC => [0xCB, 0x21]
  | .slaD => [0xCB, 0x22]
  | .slaE => [0xCB, 0x23]
  | .slaH => [0xCB, 0x24]
  | .slaL => [0xCB, 0x25]
  | .slaAtHl => [0xCB, 0x26]
  | .slaA => [0xCB, 0x27]
  | .sraB => [0xCB, 0x28]
  | .sraC => [0xCB, 0x29]
  | .sraD => [0xCB, 0x2A]
  | .sraE => [0xCB, 0x2B]
  | .sraH => [0xCB, 0x2C]
  | .sraL => [0xCB, 0x2D]
  | .sraAtHl => [0xCB, 0x2E]
  | .sraA => [0xCB, 0x2F]
  | .swapB => [0xCB, 0x30]
  | .swapC => [0xCB, 0x31]
  | .swapD => [0xCB, 0x32]
  | .swapE => [0xCB, 0x33]
  | .swapH => [0xCB, 0x34]
  | .swapL => [0xCB, 0x35]
  | .swapAtHl => [0xCB, 0x36]
  | .swapA => [0xCB, 0x37]
  | .srlB => [0xCB, 0x38]
  | .srlC => [0xCB, 0x39]
  | .srlD => [0xCB, 0x3A]
  | .srlE => [0xCB, 0x3B]
  | .srlH => [0xCB, 0x3C]
  | .srlL => [0xCB, 0x3D]
  | .srlAtHl => [0xCB, 0x3E]
  | .srlA => [0xCB, 0x3F]
  | .bit0B => [0xCB, 0x40]
  | .bit0C => [0xCB, 0x41]
  | .bit0D => [0xCB, 0x42]
  | .bit0E => [0xCB, 0x43]
  | .bit0H => [0xCB, 0x44]
  | .bit0L => [0xCB, 0x45]
  | .bit0AtHl => [0xCB, 0x46]
  | .bit0A => [0xCB, 0x47]
  | .bit1B => [0xCB, 0x48]
  | .bit1C => [0xCB, 0x49]
  | .bit1D => [0xCB, 0x4A]
  | .bit1E => [0xCB, 0x4B]
  | .bit1H => [0xCB, 0x4C]
  | .bit1L => [0xCB, 0x4D]
  | .bit1AtHl => [0xCB, 0x4E]
  | .bit1A => [0xCB, 0x4F]
  | .bit2B => [0xCB, 0x50]
  | .bit2C => [0xCB, 0x51]
  | .bit2D => [0xCB, 0x52]
  | .bit2E => [0xCB, 0x53]
  | .bit2H => [0xCB, 0x54]
  | .bit2L => [0xCB, 0x55]
  | .bit2AtHl => [0xCB, 0x56]
  | .bit2A => [0xCB, 0x57]
  | .bit3B => [0xCB, 0x58]
  | .bit3C => [0xCB, 0x59]
  | .bit3D => [0xCB, 0x5A]
  | .bit3E => [0xCB, 0x5B]
  | .bit3H => [0xCB, 0x5C]
  | .bit3L => [0xCB, 0x5D]
  | .bit3AtHl => [0xCB, 0x5E]
  | .bit3A => [0xCB, 0x5F]
  | .bit4B => [0xCB, 0x60]
  | .bit4C => [0xCB, 0x61]
  | .bit4D => [0xCB, 0x62]
  | .bit4E => [0xCB, 0x63]
  | .bit4H => [0xCB, 0x64]
  | .bit4L => [0xCB, 0x65]
  | .bit4AtHl => [0xCB, 0x66]
  | .bit4A => [0xCB, 0x67]
  | .bit5B => [0xCB, 0x68]
  | .bit5C => [0xCB, 0x69]
  | .bit5D => [0xCB, 0x6A]
  | .bit5E => [0xCB, 0x6B]
  | .bit5H => [0xCB, 0x6C]
  | .bit5L => [0xCB, 0x6D]
  | .bit5AtHl => [0xCB, 0x6E]
  | .bit5A => [0xCB, 0x6F]
  | .bit6B => [0xCB, 0x70]
  | .bit6C => [0xCB, 0x71]
  | .bit6D => [0xCB, 0x72]
  | .bit6E => [0xCB, 0x73]
  | .bit6H => [0xCB, 0x74]
  | .bit6L => [0xCB, 0x75]
  | .bit6AtHl => [0xCB, 0x76]
  | .bit6A => [0xCB, 0x77]
  | .bit7B => [0xCB, 0x78]
  | .bit7C => [0xCB, 0x79]
  | .bit7D => [0xCB, 0x7A]
  | .bit7E => [0xCB, 0x7B]
  | .bit7H => [0xCB, 0x7C]
  | .bit7L => [0xCB, 0x7D]
  | .bit7AtHl => [0xCB, 0x7E]
  | .bit7A => [0xCB, 0x7F]
  | .res0B => [0xCB, 0x80]
  | .res0C => [0xCB, 0x81]
  | .res0D => [0xCB, 0x82]
  | .res0E => [0xCB, 0x83]
  | .res0H => [0xCB, 0x84]
  | .res0L => [0xCB, 0x85]
  | .res0AtHl => [0xCB, 0x86]
  | .res0A => [0xCB, 0x87]
  | .res1B => [0xCB, 0x88]
  | .res1C => [0xCB, 0x89]
  | .res1D => [0xCB, 0x8A]
  | .res1E => [0xCB, 0x8B]
  | .res1H => [0xCB, 0x8C]
  | .res1L => [0xCB, 0x8D]
  | .res1AtHl => [0xCB, 0x8E]
  | .res1A => [0xCB, 0x8F]
  | .res2B => [0xCB, 0x90]
  | .res2C => [0xCB, 0x91]
  | .res2D => [0xCB, 0x92]
  | .res2E => [0xCB, 0x93]
  | .res2H => [0xCB, 0x94]
  | .res2L => [0xCB, 0x95]
  | .res2AtHl => [0xCB, 0x96]
  | .res2A => [0xCB, 0x97]
  | .res3B => [0xCB, 0x98]
  | .res3C => [0xCB, 0x99]
  | .res3D => [0xCB, 0x9A]
  | .res3E => [0xCB, 0x9B]
  | .res3H => [0xCB, 0x9C]
  | .res3L => [0xCB, 0x9D]
  | .res3AtHl => [0xCB, 0x9E]
  | .res3A => [0xCB, 0x9F]
  | .res4B => [0xCB, 0xA0]
  | .res4C => [0xCB, 0xA1]
  | .res4D => [0xCB, 0xA2]
  | .res4E => [0xCB, 0xA3]
  | .res4H => [0xCB, 0xA4]
  | .res4L => [0xCB, 0xA5]
  | .res4AtHl => [0xCB, 0xA6]
  | .res4A => [0xCB, 0xA7]
  | .res5B => [0xCB, 0xA8]
  | .res5C => [0xCB, 0xA9]
  | .res5D => [0xCB, 0xAA]
  | .res5E => [0xCB, 0xAB]
  | .res5H => [0xCB, 0xAC]
  | .res5L => [0xCB, 0xAD]
  | .res5AtHl => [0xCB, 0xAE]
  | .res5A => [0xCB, 0xAF]
  | .res6B => [0xCB, 0xB0]
  | .res6C => [0xCB, 0xB1]
  | .res6D => [0xCB, 0xB2]
  | .res6E => [0xCB, 0xB3]
  | .res6H => [0xCB, 0xB4]
  | .res6L => [0xCB, 0xB5]
  | .res6AtHl => [0xCB, 0xB6]
  | .res6A => [0xCB, 0xB7]
  | .res7B => [0xCB, 0xB8]
  | .res7C => [0xCB, 0xB9]
  | .res7D => [0xCB, 0xBA]
  | .res7E => [0xCB, 0xBB]
  | .res7H => [0xCB, 0xBC]
  | .res7L => [0xCB, 0xBD]
  | .res7AtHl => [0xCB, 0xBE]
  | .res7A => [0xCB, 0xBF]
  | .set0B => [0xCB, 0xC0]
  | .set0C => [0xCB, 0xC1]
  | .set0D => [0xCB, 0xC2]
  | .set0E => [0xCB, 0xC3]
  | .set0H => [0xCB, 0xC4]
  | .set0L => [0xCB, 0xC5]
  | .set0AtHl => [0xCB, 0xC6]
  | .set0A => [0xCB, 0xC7]
  | .set1B => [0xCB, 0xC8]
  | .set1C => [0xCB, 0xC9]
  | .set1D => [0xCB, 0xCA]
  | .set1E => [0xCB, 0xCB]
  | .set1H => [0xCB, 0xCC]
  | .set1L => [0xCB, 0xCD]
  | .set1AtHl => [0xCB, 0xCE]
  | .set1A => [0xCB, 0xCF]
  | .set2B => [0xCB, 0xD0]
  | .set2C => [0xCB, 0xD1]
  | .set2D => [0xCB, 0xD2]
  | .set2E => [0xCB, 0xD3]
  | .set2H => [0xCB, 0xD4]
  | .set2L => [0xCB, 0xD5]
  | .set2AtHl => [0xCB, 0xD6]
  | .set2A => [0xCB, 0xD7]
  | .set3B => [0xCB, 0xD8]
  | .set3C => [0xCB, 0xD9]
  | .set3D => [0xCB, 0xDA]
  | .set3E => [0xCB, 0xDB]
  | .set3H => [0xCB, 0xDC]
  | .set3L => [0xCB, 0xDD]
  | .set3AtHl => [0xCB, 0xDE]
  | .set3A => [0xCB, 0xDF]
  | .set4B => [0xCB, 0xE0]
  | .set4C => [0xCB, 0xE1]
  | .set4D => [0xCB, 0xE2]
  | .set4E => [0xCB, 0xE3]
  | .set4H => [0xCB, 0xE4]
  | .set4L => [0xCB, 0xE5]
  | .set4AtHl => [0xCB, 0xE6]
  | .set4A => [0xCB, 0xE7]
  | .set5B => [0xCB, 0xE8]
  | .set5C => [0xCB, 0xE9]
  | .set5D => [0xCB, 0xEA]
  | .set5E => [0xCB, 0xEB]
  | .set5H => [0xCB, 0xEC]
  | .set5L => [0xCB, 0xED]
  | .set5AtHl => [0xCB, 0xEE]
  | .set5A => [0xCB, 0xEF]
  | .set6B => [0xCB, 0xF0]
  | .set6C => [0xCB, 0xF1]
  | .set6D => [0xCB, 0xF2]
  | .set6E => [0xCB, 0xF3]
  | .set6H => [0xCB, 0xF4]
  | .set6L => [0xCB, 0xF5]
  | .set6AtHl => [0xCB, 0xF6]
  | .set6A => [0xCB, 0xF7]
  | .set7B => [0xCB, 0xF8]
  | .set7C => [0xCB, 0xF9]
  | .set7D => [0xCB, 0xFA]
  | .set7E => [0xCB, 0xFB]
  | .set7H => [0xCB, 0xFC]
  | .set7L => [0xCB, 0xFD]
  | .set7AtHl => [0xCB, 0xFE]
  | .set7A => [0xCB, 0xFF]

end Sys2Proof
end

