-- ==== Sys2Proof/Machine/Fetch.lean ====
section
/-! DEFINITION. Fetching an instruction's bytes: the opcode fetch with the halt bug (70_reset_and_hazards.md
R585 step E1), the operand bytes (30_encoding.md R150), and the placing of an instruction where the next
fetch reads. -/

namespace Sys2Proof.Machine

/-- Step E1 (R585): the opcode byte is read at PC; PC moves on unless the halt bug is pending, which this fetch
clears (R51). -/
def State.fetchOpcode (s : State) : Byte × State :=
  (s.read s.cpu.pc,
    (s.afterRead s.cpu.pc).onCpu fun c =>
      if c.haltBug then { c with haltBug := false } else { c with pc := c.pc + 1 })

/-- The whole instruction at PC, fetched byte by byte in order (R150, R585, R489), and the machine after the
last fetch. STOP's second byte is not fetched (R165). -/
def State.fetchInstr (s : State) : Instr × State :=
  let op := s.fetchOpcode
  match primaryEntry op.1 with
  | .one i => (i, op.2)
  | .skip i => (i, op.2)
  | .imm8 f => (f op.2.fetch8.1, op.2.fetch8.2)
  | .imm16 f => (f op.2.fetch16.1, op.2.fetch16.2)
  | .cb => (cbEntry op.2.fetch8.1, op.2.fetch8.2)

/-- The machine with bytes placed at `a`, `a + 1`, … (R47: the address wraps), as a loader outside the machine
places them. -/
def State.load (s : State) (a : Word) : List Byte → State
  | [] => s
  | v :: vs =>
    let placed : State :=
      if regionOf a = .interruptEnable then s.onCpu fun c => { c with ie := v }
      else { s with platform := { s.platform with mem := s.platform.mem.poke (a, v) } }
    State.load placed (a + 1) vs

/-- The bytes of a table row's instruction, up to the longest instruction (3 bytes). -/
def fetchBytes (nbits w : Nat) : List Byte := (tableBytes nbits w ++ [0, 0]).take 3

end Sys2Proof.Machine
end

