-- ==== Sys2Proof/Machine/Step.lean ====
section
/-! DEFINITION. One step of the machine: the host's turn, then one `Step` of the step algorithm
(70_reset_and_hazards.md R585). -/

namespace Sys2Proof.Machine

/-- Steps E1 to E3 (R585): the latch is sampled, the instruction is fetched and runs, and the latch sampled
before is promoted if it is still set. -/
def State.runInstr (s : State) : Result :=
  endInstruction s.cpu.imeLatch (exec s.fetchInstr.1 s.fetchInstr.2)

/-- `Step()` (R585): a locked idle, nothing (stopped), a halted idle, a dispatch, or one instruction. -/
def State.specStep (s : State) : Result :=
  match s.boundary with
  | .finished t => .next t
  | .run t => t.runInstr

/-- One step: what the host does before this Step (R17), then the Step. -/
def step (s : State) : Host.Outcome State Fault Refusal := s.hostTurn.specStep

/-- `s` with a table row's instruction placed where the next opcode fetch reads, as a cartridge image or a
boot ROM places it (log entry 9). -/
def State.withFetchWord (s : State) (nbits w : Nat) : State := s.load s.cpu.pc (fetchBytes nbits w)

end Sys2Proof.Machine
end

