-- ==== Sys2Proof/Safety.lean ====
section
/-! DEFINITION. What counts as a legal state and a safe run. A legal state keeps the promises the spec makes of
every state: F[3:0] is 0 (10_state.md R43), at most one of the wait states and the halt bug is on (R50 to
R53, 00_scope.md R18), and memory is in canonical form. -/

namespace Sys2Proof.Machine

/-- At most one of halted, halt_bug, stopped and locked is on: each is set only by an instruction that runs,
and none runs while one of them holds (R487, R488, R490, R585). -/
def Cpu.oneWait (c : Cpu) : Prop :=
  c.halted.toNat + c.haltBug.toNat + c.stopped.toNat + c.locked.toNat ≤ 1

/-- A legal core state: F[3:0] = 0 (R43) and at most one wait. -/
def Cpu.legal (c : Cpu) : Prop := c.f &&& 0x0F = 0 ∧ c.oneWait

/-- A host action that brings no illegal core state in: a save state that is loaded was saved from a legal one
(R583). -/
def HostAction.legal : HostAction → Prop
  | .loadState _ saved => saved.legal
  | .inputEdge _ => True
  | .reset _ _ _ _ => True
  | .breakpoint _ => True
  | .setDebugging _ => True

/-- A legal state. -/
def State.legal (s : State) : Prop :=
  s.cpu.legal ∧ s.platform.mem.wf ∧ ∀ turn ∈ s.platform.host, ∀ act ∈ turn, act.legal

/-- A safe run of `n` steps from `s`: it never stops with a fault or a refusal, and it ends in a legal state. -/
def State.safeFor (n : Nat) (s : State) : Prop := ∃ t, Sys2Proof.core.run n s = .next t ∧ t.legal

end Sys2Proof.Machine
end

