-- ==== Sys2Proof/Certificates/Slice0/Vocabulary.lean ====
section
/-! DEFINITION. The words the obligations are stated in: the opcode patterns of 30_encoding.md, the tables of
70_reset_and_hazards.md R588 and R594, the addresses each instruction stores to, which bytes the platform
itself changes, and the exact-arithmetic form of each instruction function. Nothing here is used by the
machine. -/

namespace Sys2Proof.Certificates

open Sys2Proof Sys2Proof.Machine

/-! ## Opcode patterns (R151 to R157) -/

/-- `xx yyy zzz`: op[7:6], op[5:3], op[2:0]. -/
def pat (x : BitVec 2) (y z : BitVec 3) : Byte := x ++ y ++ z

/-- `xx pp q zzz`: op[7:6], op[5:4], op[3], op[2:0]. -/
def patP (x p : BitVec 2) (q : BitVec 1) (z : BitVec 3) : Byte := x ++ p ++ q ++ z

/-- `xxx cc zzz`: op[7:5], op[4:3], op[2:0]. -/
def patC (x : BitVec 3) (cc : BitVec 2) (z : BitVec 3) : Byte := x ++ cc ++ z

/-- The field value of a register (R152). -/
def regField : Reg8 → BitVec 3
  | .b => 0
  | .c => 1
  | .d => 2
  | .e => 3
  | .h => 4
  | .l => 5
  | .a => 7

/-- The field value of a pair, SP variant (R153). -/
def pairField : Pair → BitVec 2
  | .bc => 0
  | .de => 1
  | .hl => 2
  | .sp => 3

/-- The field value of a pair, AF variant (R154). -/
def stackPairField : StackPair → BitVec 2
  | .bc => 0
  | .de => 1
  | .hl => 2
  | .af => 3

/-- The field value of a condition (R155). -/
def condField : Cond → BitVec 2
  | .nz => 0
  | .z => 1
  | .nc => 2
  | .c => 3

/-- The field value of an ALU operation (R156). -/
def aluField : AluOp → BitVec 3
  | .add => 0
  | .adc => 1
  | .sub => 2
  | .sbc => 3
  | .and => 4
  | .xor => 5
  | .or => 6
  | .cp => 7

/-- The field value of a rotate or shift (R157). -/
def shiftField : ShiftOp → BitVec 3
  | .rlc => 0
  | .rrc => 1
  | .rl => 2
  | .rr => 3
  | .sla => 4
  | .sra => 5
  | .swap => 6
  | .srl => 7

/-- The field value of a bit number or an RST target (R151, R162). -/
def indexField (b : Fin 8) : BitVec 3 := BitVec.ofFin b

/-- The condition that op[4:3] names (R155). -/
def condOfOpcode (op : Byte) : Cond :=
  match (op.extractLsb' 3 2).toNat with
  | 0 => .nz
  | 1 => .z
  | 2 => .nc
  | _ => .c

/-- The eleven unassigned opcodes (R164). -/
def unassignedOpcodes : List Byte :=
  [0xD3, 0xDB, 0xDD, 0xE3, 0xE4, 0xEB, 0xEC, 0xED, 0xF4, 0xFC, 0xFD]

/-! ## Bus sequences (R588) and the timing table (R594) -/

/-- The letters of R588: opcode fetch, immediate or CB byte fetch, read, write, idle. -/
inductive BusLetter where
  | f | f8 | r | w | i
deriving DecidableEq, Repr

/-- Whether an M-cycle that happened is what a letter says: fetches are reads (R114). -/
def BusLetter.fits : BusLetter → MCycle → Bool
  | .f, .access _ _ .read => true
  | .f8, .access _ _ .read => true
  | .r, .access _ _ .read => true
  | .w, .access _ _ .write => true
  | .i, .idle => true
  | _, _ => false

/-- A list of M-cycles, oldest first, fits a sequence of letters. -/
def fitsSequence (seq : List BusLetter) (cycles : List MCycle) : Bool :=
  decide (seq.length = cycles.length) && (seq.zip cycles).all fun p => p.1.fits p.2

/-- The sequence of an opcode: one for all cases, or one for a branch taken and one for it not taken. -/
inductive OpcodeSequence where
  | same (seq : List BusLetter)
  | branch (taken notTaken : List BusLetter)

/-- The sequence once it is known whether the condition holds. -/
def OpcodeSequence.pick (q : OpcodeSequence) (taken : Bool) : List BusLetter :=
  match q with
  | .same seq => seq
  | .branch t n => if taken then t else n

/-- Row 0x: the bus sequences of the instruction rules. -/
def sequenceRow0 (lo : BitVec 4) : OpcodeSequence :=
  pick16 lo
    (.same [.f]) (.same [.f, .f8, .f8]) (.same [.f, .w]) (.same [.f, .i]) (.same [.f]) (.same [.f])
    (.same [.f, .f8]) (.same [.f]) (.same [.f, .f8, .f8, .w, .w]) (.same [.f, .i]) (.same [.f, .r])
    (.same [.f, .i]) (.same [.f]) (.same [.f]) (.same [.f, .f8]) (.same [.f])

/-- Row 1x: the bus sequences of the instruction rules. -/
def sequenceRow1 (lo : BitVec 4) : OpcodeSequence :=
  pick16 lo
    (.same [.f]) (.same [.f, .f8, .f8]) (.same [.f, .w]) (.same [.f, .i]) (.same [.f]) (.same [.f])
    (.same [.f, .f8]) (.same [.f]) (.same [.f, .f8, .i]) (.same [.f, .i]) (.same [.f, .r]) (.same [.f, .i])
    (.same [.f]) (.same [.f]) (.same [.f, .f8]) (.same [.f])

/-- Row 2x: the bus sequences of the instruction rules. -/
def sequenceRow2 (lo : BitVec 4) : OpcodeSequence :=
  pick16 lo
    (.branch [.f, .f8, .i] [.f, .f8]) (.same [.f, .f8, .f8]) (.same [.f, .w]) (.same [.f, .i]) (.same [.f])
    (.same [.f]) (.same [.f, .f8]) (.same [.f]) (.branch [.f, .f8, .i] [.f, .f8]) (.same [.f, .i])
    (.same [.f, .r]) (.same [.f, .i]) (.same [.f]) (.same [.f]) (.same [.f, .f8]) (.same [.f])

/-- Row 3x: the bus sequences of the instruction rules. -/
def sequenceRow3 (lo : BitVec 4) : OpcodeSequence :=
  pick16 lo
    (.branch [.f, .f8, .i] [.f, .f8]) (.same [.f, .f8, .f8]) (.same [.f, .w]) (.same [.f, .i])
    (.same [.f, .r, .w]) (.same [.f, .r, .w]) (.same [.f, .f8, .w]) (.same [.f])
    (.branch [.f, .f8, .i] [.f, .f8]) (.same [.f, .i]) (.same [.f, .r]) (.same [.f, .i]) (.same [.f])
    (.same [.f]) (.same [.f, .f8]) (.same [.f])

/-- Row 4x: the bus sequences of the instruction rules. -/
def sequenceRow4 (lo : BitVec 4) : OpcodeSequence :=
  pick16 lo
    (.same [.f]) (.same [.f]) (.same [.f]) (.same [.f]) (.same [.f]) (.same [.f]) (.same [.f, .r])
    (.same [.f]) (.same [.f]) (.same [.f]) (.same [.f]) (.same [.f]) (.same [.f]) (.same [.f])
    (.same [.f, .r]) (.same [.f])

/-- Row 5x: the bus sequences of the instruction rules. -/
def sequenceRow5 (lo : BitVec 4) : OpcodeSequence :=
  pick16 lo
    (.same [.f]) (.same [.f]) (.same [.f]) (.same [.f]) (.same [.f]) (.same [.f]) (.same [.f, .r])
    (.same [.f]) (.same [.f]) (.same [.f]) (.same [.f]) (.same [.f]) (.same [.f]) (.same [.f])
    (.same [.f, .r]) (.same [.f])

/-- Row 6x: the bus sequences of the instruction rules. -/
def sequenceRow6 (lo : BitVec 4) : OpcodeSequence :=
  pick16 lo
    (.same [.f]) (.same [.f]) (.same [.f]) (.same [.f]) (.same [.f]) (.same [.f]) (.same [.f, .r])
    (.same [.f]) (.same [.f]) (.same [.f]) (.same [.f]) (.same [.f]) (.same [.f]) (.same [.f])
    (.same [.f, .r]) (.same [.f])

/-- Row 7x: the bus sequences of the instruction rules. -/
def sequenceRow7 (lo : BitVec 4) : OpcodeSequence :=
  pick16 lo
    (.same [.f, .w]) (.same [.f, .w]) (.same [.f, .w]) (.same [.f, .w]) (.same [.f, .w]) (.same [.f, .w])
    (.same [.f]) (.same [.f, .w]) (.same [.f]) (.same [.f]) (.same [.f]) (.same [.f]) (.same [.f])
    (.same [.f]) (.same [.f, .r]) (.same [.f])

/-- Row 8x: the bus sequences of the instruction rules. -/
def sequenceRow8 (lo : BitVec 4) : OpcodeSequence :=
  pick16 lo
    (.same [.f]) (.same [.f]) (.same [.f]) (.same [.f]) (.same [.f]) (.same [.f]) (.same [.f, .r])
    (.same [.f]) (.same [.f]) (.same [.f]) (.same [.f]) (.same [.f]) (.same [.f]) (.same [.f])
    (.same [.f, .r]) (.same [.f])

/-- Row 9x: the bus sequences of the instruction rules. -/
def sequenceRow9 (lo : BitVec 4) : OpcodeSequence :=
  pick16 lo
    (.same [.f]) (.same [.f]) (.same [.f]) (.same [.f]) (.same [.f]) (.same [.f]) (.same [.f, .r])
    (.same [.f]) (.same [.f]) (.same [.f]) (.same [.f]) (.same [.f]) (.same [.f]) (.same [.f])
    (.same [.f, .r]) (.same [.f])

/-- Row Ax: the bus sequences of the instruction rules. -/
def sequenceRowA (lo : BitVec 4) : OpcodeSequence :=
  pick16 lo
    (.same [.f]) (.same [.f]) (.same [.f]) (.same [.f]) (.same [.f]) (.same [.f]) (.same [.f, .r])
    (.same [.f]) (.same [.f]) (.same [.f]) (.same [.f]) (.same [.f]) (.same [.f]) (.same [.f])
    (.same [.f, .r]) (.same [.f])

/-- Row Bx: the bus sequences of the instruction rules. -/
def sequenceRowB (lo : BitVec 4) : OpcodeSequence :=
  pick16 lo
    (.same [.f]) (.same [.f]) (.same [.f]) (.same [.f]) (.same [.f]) (.same [.f]) (.same [.f, .r])
    (.same [.f]) (.same [.f]) (.same [.f]) (.same [.f]) (.same [.f]) (.same [.f]) (.same [.f])
    (.same [.f, .r]) (.same [.f])

/-- Row Cx: the bus sequences of the instruction rules. -/
def sequenceRowC (lo : BitVec 4) : OpcodeSequence :=
  pick16 lo
    (.branch [.f, .i, .r, .r, .i] [.f, .i]) (.same [.f, .r, .r]) (.branch [.f, .f8, .f8, .i] [.f, .f8, .f8])
    (.same [.f, .f8, .f8, .i]) (.branch [.f, .f8, .f8, .i, .w, .w] [.f, .f8, .f8]) (.same [.f, .i, .w, .w])
    (.same [.f, .f8]) (.same [.f, .i, .w, .w]) (.branch [.f, .i, .r, .r, .i] [.f, .i])
    (.same [.f, .r, .r, .i]) (.branch [.f, .f8, .f8, .i] [.f, .f8, .f8]) (.same [])
    (.branch [.f, .f8, .f8, .i, .w, .w] [.f, .f8, .f8]) (.same [.f, .f8, .f8, .i, .w, .w]) (.same [.f, .f8])
    (.same [.f, .i, .w, .w])

/-- Row Dx: the bus sequences of the instruction rules. -/
def sequenceRowD (lo : BitVec 4) : OpcodeSequence :=
  pick16 lo
    (.branch [.f, .i, .r, .r, .i] [.f, .i]) (.same [.f, .r, .r]) (.branch [.f, .f8, .f8, .i] [.f, .f8, .f8])
    (.same [.f]) (.branch [.f, .f8, .f8, .i, .w, .w] [.f, .f8, .f8]) (.same [.f, .i, .w, .w])
    (.same [.f, .f8]) (.same [.f, .i, .w, .w]) (.branch [.f, .i, .r, .r, .i] [.f, .i])
    (.same [.f, .r, .r, .i]) (.branch [.f, .f8, .f8, .i] [.f, .f8, .f8]) (.same [.f])
    (.branch [.f, .f8, .f8, .i, .w, .w] [.f, .f8, .f8]) (.same [.f]) (.same [.f, .f8])
    (.same [.f, .i, .w, .w])

/-- Row Ex: the bus sequences of the instruction rules. -/
def sequenceRowE (lo : BitVec 4) : OpcodeSequence :=
  pick16 lo
    (.same [.f, .f8, .w]) (.same [.f, .r, .r]) (.same [.f, .w]) (.same [.f]) (.same [.f])
    (.same [.f, .i, .w, .w]) (.same [.f, .f8]) (.same [.f, .i, .w, .w]) (.same [.f, .f8, .i, .i])
    (.same [.f]) (.same [.f, .f8, .f8, .w]) (.same [.f]) (.same [.f]) (.same [.f]) (.same [.f, .f8])
    (.same [.f, .i, .w, .w])

/-- Row Fx: the bus sequences of the instruction rules. -/
def sequenceRowF (lo : BitVec 4) : OpcodeSequence :=
  pick16 lo
    (.same [.f, .f8, .r]) (.same [.f, .r, .r]) (.same [.f, .r]) (.same [.f]) (.same [.f])
    (.same [.f, .i, .w, .w]) (.same [.f, .f8]) (.same [.f, .i, .w, .w]) (.same [.f, .f8, .i])
    (.same [.f, .i]) (.same [.f, .f8, .f8, .r]) (.same [.f]) (.same [.f]) (.same [.f]) (.same [.f, .f8])
    (.same [.f, .i, .w, .w])

/-- The bus sequence of a primary opcode other than 0xCB (R588). -/
def primarySequence (op : Byte) : OpcodeSequence :=
  pick16 (hiNibble op)
    (sequenceRow0 (loNibble op)) (sequenceRow1 (loNibble op)) (sequenceRow2 (loNibble op))
    (sequenceRow3 (loNibble op)) (sequenceRow4 (loNibble op)) (sequenceRow5 (loNibble op))
    (sequenceRow6 (loNibble op)) (sequenceRow7 (loNibble op)) (sequenceRow8 (loNibble op))
    (sequenceRow9 (loNibble op)) (sequenceRowA (loNibble op)) (sequenceRowB (loNibble op))
    (sequenceRowC (loNibble op)) (sequenceRowD (loNibble op)) (sequenceRowE (loNibble op))
    (sequenceRowF (loNibble op))

/-- The bus sequence of a CB opcode (R588): register operand, BIT b,(HL), any other (HL) form. -/
def cbSequence (op2 : Byte) : List BusLetter :=
  if op2.extractLsb' 0 3 ≠ 6 then [.f, .f8]
  else if op2.extractLsb' 6 2 = 1 then [.f, .f8, .r]
  else [.f, .f8, .r, .w]

/-- The bus sequence of the instruction about to be fetched at PC. -/
def sequenceAhead (s : State) : List BusLetter :=
  if s.fetchOpcode.1 = 0xCB then cbSequence s.fetchOpcode.2.fetch8.1
  else (primarySequence s.fetchOpcode.1).pick (s.cpu.cond (condOfOpcode s.fetchOpcode.1))

/-- Row 0x of the table of R594: M-cycles when taken and when not. -/
def timingRow0 (lo : BitVec 4) : Nat × Nat :=
  pick16 lo
    (1, 1) (3, 3) (2, 2) (2, 2) (1, 1) (1, 1) (2, 2) (1, 1) (5, 5) (2, 2) (2, 2) (2, 2) (1, 1) (1, 1) (2, 2)
    (1, 1)

/-- Row 1x of the table of R594: M-cycles when taken and when not. -/
def timingRow1 (lo : BitVec 4) : Nat × Nat :=
  pick16 lo
    (1, 1) (3, 3) (2, 2) (2, 2) (1, 1) (1, 1) (2, 2) (1, 1) (3, 3) (2, 2) (2, 2) (2, 2) (1, 1) (1, 1) (2, 2)
    (1, 1)

/-- Row 2x of the table of R594: M-cycles when taken and when not. -/
def timingRow2 (lo : BitVec 4) : Nat × Nat :=
  pick16 lo
    (3, 2) (3, 3) (2, 2) (2, 2) (1, 1) (1, 1) (2, 2) (1, 1) (3, 2) (2, 2) (2, 2) (2, 2) (1, 1) (1, 1) (2, 2)
    (1, 1)

/-- Row 3x of the table of R594: M-cycles when taken and when not. -/
def timingRow3 (lo : BitVec 4) : Nat × Nat :=
  pick16 lo
    (3, 2) (3, 3) (2, 2) (2, 2) (3, 3) (3, 3) (3, 3) (1, 1) (3, 2) (2, 2) (2, 2) (2, 2) (1, 1) (1, 1) (2, 2)
    (1, 1)

/-- Row 4x of the table of R594: M-cycles when taken and when not. -/
def timingRow4 (lo : BitVec 4) : Nat × Nat :=
  pick16 lo
    (1, 1) (1, 1) (1, 1) (1, 1) (1, 1) (1, 1) (2, 2) (1, 1) (1, 1) (1, 1) (1, 1) (1, 1) (1, 1) (1, 1) (2, 2)
    (1, 1)

/-- Row 5x of the table of R594: M-cycles when taken and when not. -/
def timingRow5 (lo : BitVec 4) : Nat × Nat :=
  pick16 lo
    (1, 1) (1, 1) (1, 1) (1, 1) (1, 1) (1, 1) (2, 2) (1, 1) (1, 1) (1, 1) (1, 1) (1, 1) (1, 1) (1, 1) (2, 2)
    (1, 1)

/-- Row 6x of the table of R594: M-cycles when taken and when not. -/
def timingRow6 (lo : BitVec 4) : Nat × Nat :=
  pick16 lo
    (1, 1) (1, 1) (1, 1) (1, 1) (1, 1) (1, 1) (2, 2) (1, 1) (1, 1) (1, 1) (1, 1) (1, 1) (1, 1) (1, 1) (2, 2)
    (1, 1)

/-- Row 7x of the table of R594: M-cycles when taken and when not. -/
def timingRow7 (lo : BitVec 4) : Nat × Nat :=
  pick16 lo
    (2, 2) (2, 2) (2, 2) (2, 2) (2, 2) (2, 2) (1, 1) (2, 2) (1, 1) (1, 1) (1, 1) (1, 1) (1, 1) (1, 1) (2, 2)
    (1, 1)

/-- Row 8x of the table of R594: M-cycles when taken and when not. -/
def timingRow8 (lo : BitVec 4) : Nat × Nat :=
  pick16 lo
    (1, 1) (1, 1) (1, 1) (1, 1) (1, 1) (1, 1) (2, 2) (1, 1) (1, 1) (1, 1) (1, 1) (1, 1) (1, 1) (1, 1) (2, 2)
    (1, 1)

/-- Row 9x of the table of R594: M-cycles when taken and when not. -/
def timingRow9 (lo : BitVec 4) : Nat × Nat :=
  pick16 lo
    (1, 1) (1, 1) (1, 1) (1, 1) (1, 1) (1, 1) (2, 2) (1, 1) (1, 1) (1, 1) (1, 1) (1, 1) (1, 1) (1, 1) (2, 2)
    (1, 1)

/-- Row Ax of the table of R594: M-cycles when taken and when not. -/
def timingRowA (lo : BitVec 4) : Nat × Nat :=
  pick16 lo
    (1, 1) (1, 1) (1, 1) (1, 1) (1, 1) (1, 1) (2, 2) (1, 1) (1, 1) (1, 1) (1, 1) (1, 1) (1, 1) (1, 1) (2, 2)
    (1, 1)

/-- Row Bx of the table of R594: M-cycles when taken and when not. -/
def timingRowB (lo : BitVec 4) : Nat × Nat :=
  pick16 lo
    (1, 1) (1, 1) (1, 1) (1, 1) (1, 1) (1, 1) (2, 2) (1, 1) (1, 1) (1, 1) (1, 1) (1, 1) (1, 1) (1, 1) (2, 2)
    (1, 1)

/-- Row Cx of the table of R594: M-cycles when taken and when not. -/
def timingRowC (lo : BitVec 4) : Nat × Nat :=
  pick16 lo
    (5, 2) (3, 3) (4, 3) (4, 4) (6, 3) (4, 4) (2, 2) (4, 4) (5, 2) (4, 4) (4, 3) (0, 0) (6, 3) (6, 6) (2, 2)
    (4, 4)

/-- Row Dx of the table of R594: M-cycles when taken and when not. -/
def timingRowD (lo : BitVec 4) : Nat × Nat :=
  pick16 lo
    (5, 2) (3, 3) (4, 3) (1, 1) (6, 3) (4, 4) (2, 2) (4, 4) (5, 2) (4, 4) (4, 3) (1, 1) (6, 3) (1, 1) (2, 2)
    (4, 4)

/-- Row Ex of the table of R594: M-cycles when taken and when not. -/
def timingRowE (lo : BitVec 4) : Nat × Nat :=
  pick16 lo
    (3, 3) (3, 3) (2, 2) (1, 1) (1, 1) (4, 4) (2, 2) (4, 4) (4, 4) (1, 1) (4, 4) (1, 1) (1, 1) (1, 1) (2, 2)
    (4, 4)

/-- Row Fx of the table of R594: M-cycles when taken and when not. -/
def timingRowF (lo : BitVec 4) : Nat × Nat :=
  pick16 lo
    (3, 3) (3, 3) (2, 2) (1, 1) (1, 1) (4, 4) (2, 2) (4, 4) (3, 3) (2, 2) (4, 4) (1, 1) (1, 1) (1, 1) (2, 2)
    (4, 4)

/-- The table of R594 for the primary opcodes other than 0xCB. -/
def timingTable (op : Byte) : Nat × Nat :=
  pick16 (hiNibble op)
    (timingRow0 (loNibble op)) (timingRow1 (loNibble op)) (timingRow2 (loNibble op))
    (timingRow3 (loNibble op)) (timingRow4 (loNibble op)) (timingRow5 (loNibble op))
    (timingRow6 (loNibble op)) (timingRow7 (loNibble op)) (timingRow8 (loNibble op))
    (timingRow9 (loNibble op)) (timingRowA (loNibble op)) (timingRowB (loNibble op))
    (timingRowC (loNibble op)) (timingRowD (loNibble op)) (timingRowE (loNibble op))
    (timingRowF (loNibble op))

/-- M-cycles of a CB opcode (R594): 2 with a register operand; with an (HL) operand 4, but BIT 3. -/
def cbTiming (op2 : Byte) : Nat :=
  if op2.extractLsb' 0 3 ≠ 6 then 2 else if op2.extractLsb' 6 2 = 1 then 3 else 4

/-- M-cycles of the instruction about to be fetched at PC (R594). -/
def timingAhead (s : State) : Nat :=
  if s.fetchOpcode.1 = 0xCB then cbTiming s.fetchOpcode.2.fetch8.1
  else if s.cpu.cond (condOfOpcode s.fetchOpcode.1) then (timingTable s.fetchOpcode.1).1
  else (timingTable s.fetchOpcode.1).2

/-- An instruction's bus sequence and time (R588): wherever `ahead` holds, the M-cycles that the instruction at PC
adds to the trace, its fetches included, fit `seq` in order, and it takes 4 T-cycles for each of them. -/
def SpendsWhere (ahead : State → Prop) (seq : List BusLetter) : Prop :=
  ∀ s t, ahead s → s.runInstr = .next t → ∃ cycles, t.platform.trace = cycles.reverse ++ s.platform.trace ∧
    fitsSequence seq cycles = true ∧ t.cpu.cycles = s.cpu.cycles + 4 * seq.length

/-- Nothing of the core changed but the cycle counter and the three bytes that an access or a request can reach. -/
def KeepsRegisters (s t : State) : Prop :=
  t.model = s.model ∧ t.cpu = { s.cpu with
    cycles := t.cpu.cycles, ie := t.cpu.ie, iflag := t.cpu.iflag, key1Prepare := t.cpu.key1Prepare }

/-- The frame of the M-cycles an instruction is made of (R11): a write, a read and an idle change no register, no
flag and no control state. -/
def BusCyclesKeepRegisters : Prop :=
  ∀ (s : State) (a : Word) (v : Byte),
    KeepsRegisters s (s.write a v) ∧ KeepsRegisters s (s.afterRead a) ∧ KeepsRegisters s s.idle

/-- The sequence of a primary opcode. -/
def Spends (op : Byte) (seq : List BusLetter) : Prop := SpendsWhere (fun s => s.fetchOpcode.1 = op) seq

/-- The sequences of a conditional opcode: its condition `cc` holds, or it does not. -/
def SpendsIf (op : Byte) (cc : Cond) (taken notTaken : List BusLetter) : Prop :=
  SpendsWhere (fun s => s.fetchOpcode.1 = op ∧ s.cpu.cond cc = true) taken ∧
  SpendsWhere (fun s => s.fetchOpcode.1 = op ∧ s.cpu.cond cc = false) notTaken

/-- The sequence of a CB opcode. -/
def SpendsCb (op2 : Byte) (seq : List BusLetter) : Prop :=
  SpendsWhere (fun s => s.fetchOpcode.1 = 0xCB ∧ s.fetchOpcode.2.fetch8.1 = op2) seq

/-! ## Fetched bytes -/

/-- The three bytes that an opcode fetch and two more byte fetches deliver, in order. -/
def bytesAhead (s : State) : List Byte :=
  [s.fetchOpcode.1, s.fetchOpcode.2.fetch8.1, s.fetchOpcode.2.fetch8.2.fetch8.1]

/-- The machine after the first `n` of those fetches (n = 1, 2, 3). -/
def afterFetches (s : State) (n : Nat) : State :=
  if n = 1 then s.fetchOpcode.2
  else if n = 2 then s.fetchOpcode.2.fetch8.2
  else s.fetchOpcode.2.fetch8.2.fetch8.2

/-- How many bytes of an instruction of `len` bytes are fetched: all, but STOP's second byte is not (R165). -/
def fetchedCount (i : Instr) (len : Nat) : Nat := if i = .stop then 1 else len

/-- The state runs an instruction at this boundary (steps L, S, H, D of R585). -/
def runsInstruction (s : State) : Prop :=
  s.cpu.locked = false ∧ s.cpu.stopped = false ∧ (s.cpu.halted = true → s.cpu.pending ≠ 0) ∧
    ¬ (s.cpu.ime = true ∧ s.cpu.pending ≠ 0)

/-! ## Which bytes of memory may change -/

/-- An effect of the platform may change what `a` reads as: it writes the cell, moves the latch of external
RAM, or requests an interrupt while `a` is IF. -/
def effectTouches (e : Effect) (a : Word) : Bool :=
  e.writes.any (fun w => cellOf w.1 == cellOf a) || (e.ramEnable.isSome && regionOf a == .externalRam) ||
    (e.requests != 0 && a == 0xFF0F)

/-- The platform itself may change what `a` reads as within the coming `n` M-cycles. -/
def platformTouches (s : State) (n : Nat) (a : Word) : Bool :=
  (s.platform.script.take n).any fun c => effectTouches c.tick a || effectTouches c.access a

/-- The number of M-cycles between two states (R588: 4 T-cycles each). -/
def cyclesBetween (s t : State) : Nat := (t.cpu.cycles - s.cpu.cycles) / 4

/-- The addresses a CB opcode stores to: HL for an (HL) operand, but BIT stores nothing (R380, R421 to R425). -/
def cbStoreAddrs (op2 : Byte) (s : State) : List Word :=
  if op2.extractLsb' 0 3 = 6 ∧ op2.extractLsb' 6 2 ≠ 1 then [s.cpu.hl] else []

/-- The two addresses a push stores to (R12). -/
def pushAddrs (s : State) : List Word := [s.cpu.sp - 1, s.cpu.sp - 2]

/-- The addresses a primary opcode with its immediate bytes stores to, formed as its meaning forms them from the
state it runs in. STOP is listed with KEY1's address, whose speed bit it may toggle (R488). -/
def primaryStoreAddrs (op : Byte) (imm : List Byte) (s : State) : List Word :=
  let addr := wordOf (imm.getD 1 0) (imm.getD 0 0)
  if op ∈ ([0x22, 0x32, 0x34, 0x35, 0x36, 0x70, 0x71, 0x72, 0x73, 0x74, 0x75, 0x77] : List Byte) then [s.cpu.hl]
  else if op = 0x02 then [s.cpu.bc]
  else if op = 0x12 then [s.cpu.de]
  else if op = 0x08 then [addr, addr + 1]
  else if op = 0xEA then [addr]
  else if op = 0xE0 then [highPage (imm.getD 0 0)]
  else if op = 0xE2 then [highPage s.cpu.c]
  else if op ∈ ([0xC5, 0xD5, 0xE5, 0xF5, 0xCD, 0xC7, 0xCF, 0xD7, 0xDF, 0xE7, 0xEF, 0xF7, 0xFF] : List Byte) then
    pushAddrs s
  else if op ∈ ([0xC4, 0xCC, 0xD4, 0xDC] : List Byte) then
    if s.cpu.cond (condOfOpcode op) then pushAddrs s else []
  else if op = 0x10 then [0xFF4D]
  else []

/-- The addresses an instruction stores to. The bare prefix stores where the CB opcode it fetches does (R489). -/
def storeAddrs (i : Instr) (s : State) : List Word :=
  match encode i with
  | [] => []
  | [op] => if op = 0xCB then cbStoreAddrs s.fetch8.1 s else primaryStoreAddrs op [] s
  | op :: imm => if op = 0xCB then cbStoreAddrs (imm.getD 0 0) s else primaryStoreAddrs op imm s

/-! ## Instruction functions in exact arithmetic

Each predicate says what a core becomes (`c'`) from what it was (`c`): the new value, each flag, F[3:0] = 0,
and that nothing else changed. -/

/-- The four flags, bits 7 to 4 of F, and F[3:0] = 0 (R42, R43). -/
def FlagsAre (c : Cpu) (z n h cy : Prop) : Prop :=
  (c.f.getLsbD 7 = true ↔ z) ∧ (c.f.getLsbD 6 = true ↔ n) ∧ (c.f.getLsbD 5 = true ↔ h) ∧
    (c.f.getLsbD 4 = true ↔ cy) ∧ c.f &&& 0x0F = 0

/-- Nothing but A and F changed. -/
def OnlyAF (c c' : Cpu) : Prop := c' = { c with a := c'.a, f := c'.f }

/-- Nothing but F changed. -/
def OnlyF (c c' : Cpu) : Prop := c' = { c with f := c'.f }

/-- The 8-bit register `r` is `v`, and nothing else changed. -/
def SetsReg (r : Reg8) (v : Byte) (c c' : Cpu) : Prop :=
  match r with
  | .b => c' = { c with b := v }
  | .c => c' = { c with c := v }
  | .d => c' = { c with d := v }
  | .e => c' = { c with e := v }
  | .h => c' = { c with h := v }
  | .l => c' = { c with l := v }
  | .a => c' = { c with a := v }

/-- The pair `p` is `v`, high byte in the first-named register (R41), and nothing else changed. -/
def SetsPair (p : Pair) (v : Word) (c c' : Cpu) : Prop :=
  match p with
  | .bc => c' = { c with b := v.extractLsb' 8 8, c := v.extractLsb' 0 8 }
  | .de => c' = { c with d := v.extractLsb' 8 8, e := v.extractLsb' 0 8 }
  | .hl => c' = { c with h := v.extractLsb' 8 8, l := v.extractLsb' 0 8 }
  | .sp => c' = { c with sp := v }

/-- Nothing but the 8-bit register `r` and F changed. -/
def OnlyRegF (r : Reg8) (c c' : Cpu) : Prop :=
  match r with
  | .b => c' = { c with b := c'.b, f := c'.f }
  | .c => c' = { c with c := c'.c, f := c'.f }
  | .d => c' = { c with d := c'.d, f := c'.f }
  | .e => c' = { c with e := c'.e, f := c'.f }
  | .h => c' = { c with h := c'.h, f := c'.f }
  | .l => c' = { c with l := c'.l, f := c'.f }
  | .a => c' = { c with a := c'.a, f := c'.f }

/-- A + v + cin (R301, R304). -/
def AddsWith (cin : Nat) (c : Cpu) (v : Byte) (c' : Cpu) : Prop :=
  c'.a.toNat = (c.a.toNat + v.toNat + cin) % 256 ∧ OnlyAF c c' ∧
  FlagsAre c' ((c.a.toNat + v.toNat + cin) % 256 = 0) False (c.a.toNat % 16 + v.toNat % 16 + cin > 15)
    (c.a.toNat + v.toNat + cin > 255)

/-- The flags of A - v - cin (R307, R310, R322). -/
def SubtractFlags (cin : Nat) (c : Cpu) (v : Byte) (c' : Cpu) : Prop :=
  FlagsAre c' (((c.a.toNat : Int) - v.toNat - cin) % 256 = 0) True (c.a.toNat % 16 < v.toNat % 16 + cin)
    (c.a.toNat < v.toNat + cin)

/-- A - v - cin (R307, R310). -/
def SubtractsWith (cin : Nat) (c : Cpu) (v : Byte) (c' : Cpu) : Prop :=
  (c'.a.toNat : Int) = ((c.a.toNat : Int) - v.toNat - cin) % 256 ∧ OnlyAF c c' ∧ SubtractFlags cin c v c'

/-- A compare: the flags of A - v, A as it was (R322). -/
def Compares (c : Cpu) (v : Byte) (c' : Cpu) : Prop := OnlyF c c' ∧ SubtractFlags 0 c v c'

/-- A logic operation, given bit by bit (R313, R316, R319). -/
def BitwiseWith (f : Bool → Bool → Bool) (half : Prop) (c : Cpu) (v : Byte) (c' : Cpu) : Prop :=
  (∀ k < 8, c'.a.getLsbD k = f (c.a.getLsbD k) (v.getLsbD k)) ∧ OnlyAF c c' ∧
  FlagsAre c' (c'.a = 0) False half False

/-- The three operand forms of an ALU operation (R300), each with its encoding: the register form
`10 ooo sss`, the memory form `10 ooo 110` (one read of HL, no write) and the immediate form `11 ooo 110`; and
their cycles. -/
def AluForms (op : AluOp) (effect : Cpu → Byte → Cpu → Prop) : Prop :=
  BusCyclesKeepRegisters ∧
  (∀ r, Spends (pat 0b10 (aluField op) (regField r)) [.f]) ∧ Spends (pat 0b10 (aluField op) 0b110) [.f, .r] ∧
  Spends (pat 0b11 (aluField op) 0b110) [.f, .f8] ∧
  (∀ r s rest, decode (pat 0b10 (aluField op) (regField r) :: rest) = .ok (.aluReg op r) rest ∧
    ∃ c', exec (.aluReg op r) s = .next { s with cpu := c' } ∧ effect s.cpu (s.cpu.r8 r) c') ∧
  (∀ s rest, decode (pat 0b10 (aluField op) 0b110 :: rest) = .ok (.aluAtHl op) rest ∧
    ∃ c', exec (.aluAtHl op) s = .next { s.afterRead s.cpu.hl with cpu := c' } ∧
      effect (s.afterRead s.cpu.hl).cpu (s.read s.cpu.hl) c') ∧
  (∀ v s rest, decode (pat 0b11 (aluField op) 0b110 :: v :: rest) = .ok (.aluImm op v) rest ∧
    ∃ c', exec (.aluImm op v) s = .next { s with cpu := c' } ∧ effect s.cpu v c')

/-- The result of a rotate, shift or SWAP of `v` with carry in `cin`, in exact arithmetic (R385 to R399). -/
def shiftResult (op : ShiftOp) (v cin : Nat) : Nat :=
  match op with
  | .rlc => 2 * v % 256 + v / 128
  | .rrc => v / 2 + 128 * (v % 2)
  | .rl => 2 * v % 256 + cin
  | .rr => v / 2 + 128 * cin
  | .sla => 2 * v % 256
  | .sra => v / 2 + 128 * (v / 128)
  | .swap => 16 * (v % 16) + v / 16
  | .srl => v / 2

/-- The carry out: bit 7 of a left move, bit 0 of a right move, none of SWAP (R385 to R399). -/
def shiftCarry (op : ShiftOp) (v : Nat) : Prop :=
  match op with
  | .rlc | .rl | .sla => 128 ≤ v
  | .rrc | .rr | .sra | .srl => v % 2 = 1
  | .swap => False

/-- The flags of a CB rotate, shift or SWAP (R380). -/
def ShiftFlags (op : ShiftOp) (v : Byte) (cin : Nat) (c' : Cpu) : Prop :=
  FlagsAre c' (shiftResult op v.toNat cin = 0) False False (shiftCarry op v.toNat)

/-- The two operand forms of a CB rotate, shift or SWAP (R380), each with its encoding: `CB`, `00 ooo rrr`, and its
cycles. -/
def ShiftForms (op : ShiftOp) : Prop :=
  BusCyclesKeepRegisters ∧
  (∀ r, SpendsCb (pat 0b00 (shiftField op) (regField r)) [.f, .f8]) ∧
  SpendsCb (pat 0b00 (shiftField op) 0b110) [.f, .f8, .r, .w] ∧
  (∀ r s rest, decode (0xCB :: pat 0b00 (shiftField op) (regField r) :: rest) = .ok (.shiftReg op r) rest ∧
    ∃ c', exec (.shiftReg op r) s = .next { s with cpu := c' } ∧ OnlyRegF r s.cpu c' ∧
      (c'.r8 r).toNat = shiftResult op (s.cpu.r8 r).toNat s.cpu.flagC.toNat ∧
      ShiftFlags op (s.cpu.r8 r) s.cpu.flagC.toNat c') ∧
  (∀ s rest, decode (0xCB :: pat 0b00 (shiftField op) 0b110 :: rest) = .ok (.shiftAtHl op) rest ∧
    ∃ c' v', exec (.shiftAtHl op) s = .next (State.write { s.afterRead s.cpu.hl with cpu := c' } s.cpu.hl v') ∧
      OnlyF (s.afterRead s.cpu.hl).cpu c' ∧
      v'.toNat = shiftResult op (s.read s.cpu.hl).toNat s.cpu.flagC.toNat ∧
      ShiftFlags op (s.read s.cpu.hl) s.cpu.flagC.toNat c')

/-- DAA in exact arithmetic (R481): A after it and the carry after it. -/
def daaResult (a : Nat) (n h c : Bool) : Nat × Bool :=
  if n = false then
    let a1 := if c = true ∨ a > 0x99 then (a + 0x60) % 256 else a
    let a2 := if h = true ∨ a1 % 16 > 9 then (a1 + 0x06) % 256 else a1
    (a2, c || decide (a > 0x99))
  else
    let a1 := if c = true then (a + 256 - 0x60) % 256 else a
    let a2 := if h = true then (a1 + 256 - 0x06) % 256 else a1
    (a2, c)

/-- A step of `e` bytes forward or back, e signed, modulo 2^16 (R160, R47). -/
def offsetBy (w : Word) (e : Byte) : Word := BitVec.ofInt 16 (w.toNat + e.toInt)

/-- The push of a 16-bit value (R12): high byte at SP-1 first, then low byte at SP-2, SP two lower. -/
def pushed (s : State) (v : Word) : State :=
  let mid := (s.setSp (s.cpu.sp - 1)).write (s.cpu.sp - 1) (v.extractLsb' 8 8)
  (mid.setSp (s.cpu.sp - 2)).write (s.cpu.sp - 2) (v.extractLsb' 0 8)

/-- The machine after the first byte of a pop (R12). -/
def poppedLow (s : State) : State := (s.afterRead s.cpu.sp).setSp (s.cpu.sp + 1)

/-- The value a pop delivers (R12): low byte from SP, then high byte from SP+1. -/
def poppedValue (s : State) : Word := (poppedLow s).read (s.cpu.sp + 1) ++ s.read s.cpu.sp

/-- The machine after a pop (R12), SP two higher. -/
def popped (s : State) : State := ((poppedLow s).afterRead (s.cpu.sp + 1)).setSp (s.cpu.sp + 2)

/-- Two states that differ at most in what the host's debugger holds: the trace offered to the watch hook and the
debug flag (R114, R545). -/
def sameButDebugger (s t : State) : Prop :=
  t = { s with platform := { s.platform with trace := t.platform.trace, debugging := t.platform.debugging } }

end Sys2Proof.Certificates
end

