-- ==== Sys2Proof/Machine/FrameDriver.lean ====
section
/-! DEFINITION. The host's frame driver (60_exceptions.md R542, R545): it calls Step until a T-cycle budget is
used up, the debug flag is set, or the core is stopped. It is host code around the core, not part of a step
(log entry 19). -/

namespace Sys2Proof.Machine

/-- Whether the driver calls Step again: the budget is not used up since `start`, no breakpoint has fired
(R545) and the core is not stopped (R542, 92 D23). The budget is what the cycle counter has grown by since `start`;
a reset or a loaded save state that sets the counter back in mid-frame makes that difference 0, so the frame then
runs on until the counter passes `start + budget`. DESIGN CHOICE, unsafe (log entry 22): the spec says nothing of
the budget there. -/
def State.driverGoesOn (s : State) (start budget : Nat) : Bool :=
  decide (s.cpu.cycles - start < budget) && !s.platform.debugging && !s.cpu.stopped

/-- At most `fuel` calls of Step; the budget is checked only between Steps (R542, 92 D26). The host's turn comes
first, so a PC match in it stops the driver before the Step at that PC (R545). -/
def State.drive (start budget : Nat) : Nat → State → Result
  | 0, s => .next s
  | fuel + 1, s =>
    if s.hostTurn.driverGoesOn start budget then
      match s.hostTurn.specStep with
      | .next t => State.drive start budget fuel t
      | .fault f => .fault f
      | .refused r => .refused r
    else .next s.hostTurn

/-- One frame: the budget is `CyclesPerFrame` from the cycle count at its start (R542); the overshoot is not
carried over. -/
def State.driveFrame (fuel : Nat) (s : State) : Result := s.drive s.cpu.cycles Config.cyclesPerFrame fuel

end Sys2Proof.Machine
end

