-- ==== Sys2Proof/Certificates/Slice0/Obligations.lean ====
section
/-! DEFINITION. The statements for the provers, in the order of OBLIGATIONS.json: encoding, the step, the platform
and memory, whole-machine rules, and then the instruction families. An instruction statement gives the encoding,
the bus sequence and time (Spends), that a bus cycle keeps the registers, that exec answers a next state, and that
state: what it does not name is as it was. PC as an instruction statement sees it is past the instruction's bytes
(StepRunsDecodedInstruction, FetchReadsAtPcUnlessHaltBug). -/

open Sys2Proof Sys2Proof.Machine Sys2Proof.Certificates

/-! ## Encoding and decoding -/

/-- Decoding what the encoder writes gives the instruction back, with every operand at every value, whatever
follows it (R150, R157 to R163, R165). -/
def Obligations.DecodeInvertsEncode : Prop :=
  ∀ i rest, WellFormed i = true → decode (encode i ++ rest) = .ok i rest

/-- Whatever the decoder reads, encoding it gives the bytes read, except STOP's second byte, which is not read
(R165, R166: every assigned opcode has exactly one meaning). The bare prefix decodes to the model's own
constructor (log entry 10). -/
def Obligations.EncodeInvertsDecode : Prop :=
  ∀ bytes i rest, decode bytes = .ok i rest →
    encode i ++ rest = bytes ∨ (i = .stop ∧ ∃ skipped, bytes = 0x10 :: skipped :: rest)

/-- The decoder is total: three bytes always decode to a whole instruction; it is one of the eleven unassigned
instructions exactly when the first byte is one of R164's eleven, and a CB instruction's second byte selects it
exactly when the first byte is 0xCB (R164, R167, R169). -/
def Obligations.ThreeBytesAlwaysDecode : Prop :=
  ∀ op b1 b2 rest, ∃ i after, decode (op :: b1 :: b2 :: rest) = .ok i after ∧ WellFormed i = true ∧
    ((∃ k, i = .unassigned k) ↔ op ∈ unassignedOpcodes) ∧
    (op = 0xCB ↔ encode i = [0xCB, b1])

/-- Instruction words written out from the spec's encodings decode to what they stand for (R201, R250, R301, R350,
R385, R420, R441, R487). -/
def Obligations.SpecWordsDecode : Prop :=
  decode [0b01001000] = .ok .ldCB [] ∧
  decode [0b00110001, 0xF0, 0xDF] = .ok (.ldSpImm 0xDFF0) [] ∧
  decode [0b11000110, 0x01] = .ok (.addAImm 0x01) [] ∧
  decode [0b00101001] = .ok .addHlHl [] ∧
  decode [0xCB, 0b00110111] = .ok .swapA [] ∧
  decode [0xCB, 0b01111110] = .ok .bit7AtHl [] ∧
  decode [0b11000011, 0x50, 0x01] = .ok (.jp 0x0150) [] ∧
  decode [0b01110110] = .ok .halt []

/-! ## The step -/

/-- A step runs the decoded instruction: where the boundary lets an instruction run and the bytes that the fetches
deliver at PC decode to `i`, Step wakes the core, fetches those bytes (moving PC past them) and answers what exec
of `i` answers there, with the EI promotion of R586 at its end. -/
def Obligations.StepRunsDecodedInstruction : Prop :=
  ∀ s i rest, runsInstruction s → decode (bytesAhead s.wake) = .ok i rest →
    s.specStep = endInstruction s.cpu.imeLatch
      (exec i (afterFetches s.wake (fetchedCount i (3 - rest.length))))

/-- The opcode fetch reads at PC and moves PC on by one, except that with the halt bug it leaves PC and clears the
bug (R51). So the bytes fetched when the platform does nothing are those at PC, PC+1, PC+2, and with the halt bug
those at PC, PC, PC+1 (R120, R585). -/
def Obligations.FetchReadsAtPcUnlessHaltBug : Prop :=
  (∀ s : State, s.fetchOpcode.1 = s.read s.cpu.pc ∧
    (s.cpu.haltBug = false → s.fetchOpcode.2 = (s.afterRead s.cpu.pc).setPc (s.cpu.pc + 1)) ∧
    (s.cpu.haltBug = true →
      s.fetchOpcode.2 = (s.afterRead s.cpu.pc).onCpu fun c => { c with haltBug := false })) ∧
  (∀ s : State, s.platform.script = [] →
    (s.cpu.haltBug = false →
      bytesAhead s = [s.peek s.cpu.pc, s.peek (s.cpu.pc + 1), s.peek (s.cpu.pc + 2)]) ∧
    (s.cpu.haltBug = true → bytesAhead s = [s.peek s.cpu.pc, s.peek s.cpu.pc, s.peek (s.cpu.pc + 1)]))

/-- While locked, a Step is one Idle and nothing else, and the core is still locked after it (R538; the spec's
decision D3). -/
def Obligations.LockedStepIsOneIdle : Prop :=
  ∀ s : State, s.cpu.locked = true → s.specStep = .next s.idle ∧ s.idle.cpu.locked = true ∧
    s.idle.cpu.pc = s.cpu.pc ∧ s.idle.cpu.cycles = s.cpu.cycles + 4

/-- While stopped, a Step changes nothing; an input edge clears stopped, raises IF bit 4 exactly where the host raises
the joypad interrupt with it, and changes nothing else (R537, R541); `RequestInterrupt(k)` sets IF bit k and nothing
else (R522). The Step after the edge dispatches if IME is 1 and an interrupt is pending and otherwise runs the
instruction at PC (the spec's decisions D10, D19). -/
def Obligations.StoppedUntilInputEdge : Prop :=
  (∀ (s : State) joypad, s.hostAct (.inputEdge joypad) = { s with cpu := { s.cpu with
    stopped := false, iflag := if joypad then s.cpu.iflag ||| 0b10000 else s.cpu.iflag } }) ∧
  (∀ (s : State) (k : Fin 5),
    s.requestInterrupt k = { s with cpu := { s.cpu with iflag := (s.requestInterrupt k).cpu.iflag } } ∧
    ∀ j < 5, (s.requestInterrupt k).cpu.iflag.getLsbD j = (s.cpu.iflag.getLsbD j || decide (j = k.val))) ∧
  ∀ s : State, s.cpu.stopped = true → s.cpu.locked = false →
    s.specStep = .next s ∧
    ∀ joypad, (s.hostAct (.inputEdge joypad)).cpu.stopped = false ∧
      (s.hostAct (.inputEdge joypad)).cpu.pc = s.cpu.pc ∧
      (s.cpu.halted = false →
        ((s.hostAct (.inputEdge joypad)).cpu.ime = true ∧ (s.hostAct (.inputEdge joypad)).cpu.pending ≠ 0 →
          (s.hostAct (.inputEdge joypad)).specStep = .next (s.hostAct (.inputEdge joypad)).takeInterrupt) ∧
        (¬ ((s.hostAct (.inputEdge joypad)).cpu.ime = true ∧ (s.hostAct (.inputEdge joypad)).cpu.pending ≠ 0) →
          (s.hostAct (.inputEdge joypad)).specStep = (s.hostAct (.inputEdge joypad)).runInstr))

/-- While halted, a Step with nothing pending is one Idle; with an interrupt pending the halt ends at no cost, and
the same Step dispatches if IME is 1 and otherwise runs the instruction after HALT (R536; the spec's decision
D30). -/
def Obligations.HaltedIdlesUntilPending : Prop :=
  ∀ s : State, s.cpu.halted = true → s.cpu.locked = false → s.cpu.stopped = false →
    (s.cpu.pending = 0 → s.specStep = .next s.idle) ∧
    (s.cpu.pending ≠ 0 → s.cpu.ime = true →
      s.specStep = .next ({ s with cpu := { s.cpu with halted := false } } : State).takeInterrupt) ∧
    (s.cpu.pending ≠ 0 → s.cpu.ime = false →
      s.specStep = ({ s with cpu := { s.cpu with halted := false } } : State).runInstr)

/-- A running core dispatches exactly when IME = 1 and something is pending; otherwise it runs an instruction
(R524; the spec's decision D20). -/
def Obligations.DispatchExactlyWhenEnabledAndPending : Prop :=
  ∀ s : State, s.cpu.locked = false → s.cpu.stopped = false → s.cpu.halted = false →
    (s.cpu.ime = true ∧ s.cpu.pending ≠ 0 → s.specStep = .next s.takeInterrupt) ∧
    (¬ (s.cpu.ime = true ∧ s.cpu.pending ≠ 0) → s.specStep = s.runInstr)

/-- The pending set is `IE & IF & 0x1F`, and the interrupt taken is its lowest bit, at vector 0x40 + 8k (R523,
R525, R521; the spec's decisions D4, D18). -/
def Obligations.LowestPendingIsTaken : Prop :=
  (∀ c : Cpu, ∀ k < 5, c.pending.getLsbD k = (c.ie.getLsbD k && c.iflag.getLsbD k)) ∧
  (∀ p : BitVec 5, p ≠ 0 → p.getLsbD (lowestPending p).val = true ∧
    ∀ j < (lowestPending p).val, p.getLsbD j = false) ∧
  (∀ k : Fin 5, (vectorOf k).toNat = 0x40 + 8 * k.val)

/-- Dispatch (R526 to R530; the spec's decisions D9, D11): the vector, IME and the latch cleared, SP two lower, PC
(PC - 1 with the halt bug) pushed high byte first, five M-cycles Idle, Idle, write, write, Idle, and every other
register as it was. IF loses exactly bit k, where neither pushed byte lands on IF and the platform requests
nothing meanwhile. Other bytes stay; cells are those of log entry 12. -/
def Obligations.DispatchSavesPcAndEntersVector : Prop :=
  ∀ s : State, s.cpu.pending ≠ 0 →
    let k := lowestPending s.cpu.pending
    let ret := if s.cpu.haltBug then s.cpu.pc - 1 else s.cpu.pc
    let t := s.takeInterrupt
    t.cpu = { s.cpu with
      pc := 0x0040 + BitVec.ofNat 16 (8 * k.val), sp := s.cpu.sp - 2, ime := false, imeLatch := false,
      haltBug := false, cycles := s.cpu.cycles + 20, ie := t.cpu.ie, iflag := t.cpu.iflag,
      key1Prepare := t.cpu.key1Prepare } ∧
    t.platform.trace = [.idle, .access (s.cpu.sp - 2) (ret.extractLsb' 0 8) .write,
      .access (s.cpu.sp - 1) (ret.extractLsb' 8 8) .write, .idle, .idle] ++ s.platform.trace ∧
    (∀ a, cellOf a ≠ cellOf (s.cpu.sp - 1) → cellOf a ≠ cellOf (s.cpu.sp - 2) → a ≠ 0xFF0F →
      platformTouches s 5 a = false → t.peek a = s.peek a) ∧
    (s.cpu.sp - 1 ≠ 0xFF0F → s.cpu.sp - 2 ≠ 0xFF0F → platformTouches s 5 0xFF0F = false →
      ∀ j < 5, t.cpu.iflag.getLsbD j = (s.cpu.iflag.getLsbD j && decide (j ≠ k.val)))

/-- EI's delay (R586; the spec's decisions D6, D35): EI itself leaves IME and sets the latch; the instruction
after it, whichever it is, ends with IME = 1 and the latch clear, except DI, which ends with both 0. -/
def Obligations.EiTakesEffectAfterNextInstruction : Prop :=
  (∀ s t : State, s.cpu.imeLatch = false → s.fetchInstr.1 = .ei → s.runInstr = .next t →
    t.cpu.ime = s.cpu.ime ∧ t.cpu.imeLatch = true) ∧
  (∀ s t : State, s.cpu.imeLatch = true → s.fetchInstr.1 ≠ .di → s.runInstr = .next t →
    t.cpu.ime = true ∧ t.cpu.imeLatch = false) ∧
  (∀ s t : State, s.fetchInstr.1 = .di → s.runInstr = .next t →
    t.cpu.ime = false ∧ t.cpu.imeLatch = false)

/-! ## Reset and the host -/

/-- The core after reset: R60's control state for every model and boot choice, R61's and R62's registers and IF
when the boot is skipped, and with a boot ROM PC = 0, IF = 0, F[3:0] = 0 and the other registers the draw (R63;
the spec's decision D13). -/
def Obligations.ResetValues : Prop :=
  (∀ m b, let c := Cpu.afterReset m b;
    c.ime = false ∧ c.imeLatch = false ∧ c.halted = false ∧ c.haltBug = false ∧ c.stopped = false ∧
      c.locked = false ∧ c.cycles = 0 ∧ c.ie = 0x00 ∧ c.key1Prepare = false ∧ c.key1Speed = false) ∧
  (let c := Cpu.afterReset .dmg .skipped;
    c.af = 0x01B0 ∧ c.bc = 0x0013 ∧ c.de = 0x00D8 ∧ c.hl = 0x014D ∧ c.sp = 0xFFFE ∧ c.pc = 0x0100 ∧
      c.iflag = 0x01) ∧
  (let c := Cpu.afterReset .cgb .skipped;
    c.af = 0x1180 ∧ c.bc = 0x0000 ∧ c.de = 0xFF56 ∧ c.hl = 0x000D ∧ c.sp = 0xFFFE ∧ c.pc = 0x0100 ∧
      c.iflag = 0x01) ∧
  (∀ m d, let c := Cpu.afterReset m (.bootRom d);
    c.pc = 0x0000 ∧ c.iflag = 0x00 ∧ c.f &&& 0x0F = 0 ∧ c.f.extractLsb' 4 4 = d.flags ∧ c.a = d.a ∧ c.b = d.b ∧
      c.c = d.c ∧ c.d = d.d ∧ c.e = d.e ∧ c.h = d.h ∧ c.l = d.l ∧ c.sp = d.sp)

/-- One step is the host's turn and then `Step`, and with nothing queued the host does nothing (R17, R585). A host
reset sets the whole core to its reset values and takes no cycle (R581, R583); a save state whose version tag does
not match changes nothing, and one that matches replaces the whole core state (R583). That the host acts through a
queue is the model's choice (log entry 3), and so is that a load leaves memory and the devices alone (log entry
16), since R583 speaks of the core state only. -/
def Obligations.HostTurnThenStep : Prop :=
  (∀ s, step s = s.hostTurn.specStep ∧ (s.platform.host = [] → s.hostTurn = s)) ∧
  ∀ s : State,
    (∀ m b cells ram, (s.hostAct (.reset m b cells ram)).cpu = Cpu.afterReset m b ∧
      (s.hostAct (.reset m b cells ram)).model = m ∧
      (s.hostAct (.reset m b cells ram)).platform.script = s.platform.script) ∧
    (∀ saved, s.hostAct (.loadState false saved) = s) ∧
    (∀ saved, s.hostAct (.loadState true saved) = { s with cpu := saved })

/-- The state after reset is legal: R43, at most one of the four waiting flags, and the model's canonical memory
(log entry 4) and legal saved cores in the host's queue (log entry 3). So is the state after a reset with any boot
choice and any platform, whatever its bytes (R582), that has those two. -/
def Obligations.ResetStateIsLegal : Prop :=
  State.reset.legal ∧
  ∀ m b, ∀ p : Platform, p.mem.wf → (∀ turn ∈ p.host, ∀ act ∈ turn, act.legal) → (State.powerOn m b p).legal

/-! ## Whole-machine rules -/

/-- There is no fault and no refusal inside the core (R18, R520; the spec's decision D3): in every state every
instruction answers a next state, and so does every step (log entry 17). -/
def Obligations.EveryStepAnswersANextState : Prop :=
  (∀ i s, ∃ t, exec i s = .next t) ∧ ∀ s : State, ∃ t, step s = .next t

/-- Every step keeps a legal state legal: F[3:0] = 0 (R43), at most one of halted, halt_bug, stopped and locked,
and memory in canonical form (the model's own, log entry 4). -/
def Obligations.StepKeepsStateLegal : Prop := ∀ s t : State, s.legal → step s = .next t → t.legal

/-- Every run from a legal state, of any length and under any platform and host, never stops (R18) and ends legal:
F[3:0] = 0 (R43), at most one waiting flag, the model's canonical memory (log entry 4) and legal saved cores in the
host's queue (log entry 3). -/
def Obligations.EveryRunFromALegalStateIsSafe : Prop := ∀ n, ∀ s : State, s.legal → s.safeFor n

/-- Who may write the control state (R48 to R53, R57): IME only DI and RETI (the step adds the EI promotion and
the dispatch), the latch only EI and DI, halted and halt_bug only HALT, stopped and the speed bit only STOP,
locked only an unassigned opcode. No instruction changes MODEL. -/
def Obligations.OnlyTheseInstructionsWriteControlState : Prop :=
  ∀ i, ∀ s t : State, exec i s = .next t →
    (i ≠ .di → i ≠ .reti → t.cpu.ime = s.cpu.ime) ∧
    (i ≠ .ei → i ≠ .di → t.cpu.imeLatch = s.cpu.imeLatch) ∧
    (i ≠ .halt → t.cpu.halted = s.cpu.halted ∧ t.cpu.haltBug = s.cpu.haltBug) ∧
    (i ≠ .stop → t.cpu.stopped = s.cpu.stopped ∧ t.cpu.key1Speed = s.cpu.key1Speed) ∧
    ((∀ k, i ≠ .unassigned k) → t.cpu.locked = s.cpu.locked) ∧
    t.model = s.model

/-- The bus sequence of every instruction (R588; the order is the spec's decision D15): the M-cycles an
instruction adds to the trace (the model's own, log entry 15) are, in order, the fetches, reads, writes and idles
that its rule lists. -/
def Obligations.BusSequenceOfEveryInstruction : Prop :=
  ∀ s t : State, s.runInstr = .next t →
    ∃ cycles, t.platform.trace = cycles.reverse ++ s.platform.trace ∧
      fitsSequence (sequenceAhead s) cycles = true

/-- The timing table (R594; the spec's decision D15): every instruction takes 4 T-cycles for each M-cycle the
table gives it, taken or not taken. -/
def Obligations.EveryInstructionTakesItsTableTime : Prop :=
  ∀ s t : State, s.runInstr = .next t → t.cpu.cycles = s.cpu.cycles + 4 * timingAhead s

/-- The memory frame: for every instruction, an address that it does not store to, and that the platform itself
does not touch meanwhile, reads after it as it read before. STOP stores nothing (R488), but its speed switch changes
what KEY1 reads as, so 0xFF4D is left out of the frame for STOP, which is the model's choice (log entry 18). Echo RAM
shares the cells of work RAM (log entry 12). -/
def Obligations.InstructionsStoreOnlyWhereTheySay : Prop :=
  ∀ i, ∀ s t : State, exec i s = .next t → ∀ a,
    (∀ b ∈ storeAddrs i s, cellOf b ≠ cellOf a) →
    platformTouches s (cyclesBetween s t) a = false →
    t.peek a = s.peek a

/-- The core never reads what the debugger holds (R114, R545): two states that differ only in the trace offered to
the watch hook and in the debug flag step to states that differ only in those. A hook that matches an access, or a PC
match, sets the flag. The frame driver tests it between Steps, after the host's turn, and makes no Step once it is
set, once the budget is used up, or while the core is stopped; otherwise it makes one Step and goes on (R542, R545).
The trace, the driver and how it counts are the model's (log entries 15, 19, 22). -/
def Obligations.CoreNeverReadsDebuggerState : Prop :=
  (∀ s s' t t' : State, sameButDebugger s s' → s.specStep = .next t → s'.specStep = .next t' →
    sameButDebugger t t') ∧
  (∀ (s : State) (a : Word) (v : Byte),
    (s.afterRead a).platform.debugging = (s.platform.debugging || s.cycleNow.pause) ∧
    (s.write a v).platform.debugging = (s.platform.debugging || s.cycleNow.pause) ∧
    s.idle.platform.debugging = s.platform.debugging) ∧
  ∀ (s : State) (start budget n : Nat),
    (s.hostTurn.platform.debugging = true ∨ s.hostTurn.cpu.stopped = true ∨
        budget ≤ s.hostTurn.cpu.cycles - start →
      s.drive start budget (n + 1) = .next s.hostTurn) ∧
    (∀ later, s.platform.host = [.breakpoint s.cpu.pc] :: later →
      s.drive start budget (n + 1) =
        .next { s with platform := { s.platform with host := later, debugging := true } }) ∧
    (∀ a later, a ≠ s.cpu.pc → s.platform.host = [.breakpoint a] :: later →
      s.hostTurn = { s with platform := { s.platform with host := later } }) ∧
    (∀ t, s.hostTurn.platform.debugging = false → s.hostTurn.cpu.stopped = false →
      s.hostTurn.cpu.cycles - start < budget → step s = .next t →
      s.drive start budget (n + 1) = t.drive start budget n)

/-! ## The bus and memory -/

/-- `Tick` (R54, R102): 4 T-cycles, the next script record is used up (log entries 1, 2), IF bits may be set and none
cleared, and no other core state changes. The bits are those of VBlank, LCD, Timer and Joypad that a block raises
(R521, R522), and never Serial's (R541; the spec's decision D18). `Idle` is a `Tick` and nothing else of the core. -/
def Obligations.TickChangesNoCoreRegister : Prop :=
  (DeviceInterrupt.vblank.number = 0 ∧ DeviceInterrupt.lcd.number = 1 ∧ DeviceInterrupt.timer.number = 2 ∧
    DeviceInterrupt.joypad.number = 4) ∧
  (∀ e : Effect, ∀ j < 5, e.requests.getLsbD j = e.raises.any (fun d => d.number.val == j)) ∧
  ∀ s : State,
    s.tick.cpu.iflag.getLsbD 3 = s.cpu.iflag.getLsbD 3 ∧
    (∀ a, platformTouches s 1 a = false → s.tick.peek a = s.peek a) ∧
    s.tick.cpu = { s.cpu with
      cycles := s.cpu.cycles + 4, iflag := s.cpu.iflag ||| s.cycleNow.tick.requests } ∧
    s.tick.platform.script = s.platform.script.tail ∧ s.tick.model = s.model ∧
    s.idle.cpu = s.tick.cpu ∧ s.idle.platform.mem = s.tick.platform.mem

/-- A read (R11, R106, R115): after the Tick, the core's own bytes come from the core; elsewhere the bus answers
with what it says or else with the byte that stands there. A read changes no core register and no byte that the
platform does not touch, and raises no Serial request (R541); it is noted with its value for the watch hook (R114).
How a record answers and acts is the model's (log entries 1, 2). -/
def Obligations.ReadAnswersCoreByteOrBus : Prop :=
  ∀ (s : State) (a : Word),
    ((regionOf a).coreOwned = true → s.read a = s.tick.peek a) ∧
    ((regionOf a).coreOwned = false → s.cycleNow.readAs = none → s.read a = s.tick.peek a) ∧
    (∀ v, (regionOf a).coreOwned = false → s.cycleNow.readAs = some v → s.read a = v) ∧
    (s.afterRead a).cpu = { s.tick.cpu with iflag := (s.afterRead a).cpu.iflag } ∧
    (s.afterRead a).cpu.iflag.getLsbD 3 = s.cpu.iflag.getLsbD 3 ∧
    (∀ x, platformTouches s 1 x = false → (s.afterRead a).peek x = s.peek x) ∧
    (s.afterRead a).platform.trace = .access a (s.read a) .read :: s.platform.trace

/-- A write (R11, R114): one M-cycle, noted for the hook; of the core it may change only IE, IF and KEY1's prepare
bit, and those only at their own addresses or, for IF, by a request, never Serial's (R541). The byte lands: after the
Tick, what `State.put` does at the address is done, so IE, IF and KEY1 take the value by their write rules (R55 to
R57) and plain storage reads it back (R116), where the platform does not touch the address itself (log entries 1, 2,
4, 12). -/
def Obligations.WriteChangesOnlyItsTarget : Prop :=
  ∀ (s : State) (a : Word) (v : Byte),
    (s.write a v).cpu = { s.cpu with
      cycles := s.cpu.cycles + 4, ie := (s.write a v).cpu.ie, iflag := (s.write a v).cpu.iflag,
      key1Prepare := (s.write a v).cpu.key1Prepare } ∧
    (a ≠ 0xFFFF → (s.write a v).cpu.ie = s.cpu.ie) ∧
    (a ≠ 0xFF4D → (s.write a v).cpu.key1Prepare = s.cpu.key1Prepare) ∧
    (a ≠ 0xFF0F → (s.write a v).cpu.iflag = s.cpu.iflag ||| s.cycleNow.tick.requests |||
      (if (regionOf a).coreOwned then 0 else s.cycleNow.access.requests)) ∧
    (a ≠ 0xFF0F → (s.write a v).cpu.iflag.getLsbD 3 = s.cpu.iflag.getLsbD 3) ∧
    (s.write a v).platform.trace = .access a v .write :: s.platform.trace ∧
    ((regionOf a).coreOwned = true → (s.write a v).cpu = (s.tick.put a v).cpu) ∧
    (platformTouches s 1 a = false → (s.write a v).peek a = (s.tick.put a v).peek a) ∧
    (a = 0xFFFF → (s.write a v).cpu.ie = v) ∧
    (a = 0xFF0F → (s.write a v).cpu.iflag = v.extractLsb' 0 5) ∧
    (a = 0xFF4D → (s.write a v).cpu.key1Prepare =
      if s.model = .cgb then v.getLsbD 0 else s.cpu.key1Prepare) ∧
    (s.platform.mem.wf → platformTouches s 1 a = false →
      regionOf a ∈ ([.videoRam, .workRam, .echoRam, .oam, .highRam] : List Region) ∨
        (regionOf a = .externalRam ∧ s.platform.ramEnabled = true) →
      (s.write a v).peek a = v) ∧
    (∀ x, cellOf x ≠ cellOf a → platformTouches s 1 x = false → (s.write a v).peek x = s.peek x)

/-- IE stores and returns all 8 bits, IF stores bits 4..0 and reads with 0xE0, KEY1 on a CGB stores bit 0 and
reads speed, six ones and prepare, and on a DMG it reads 0xFF and ignores writes (R55 to R57). -/
def Obligations.CoreOwnedBytesReadAndWrite : Prop :=
  ∀ (s : State) (v : Byte),
    s.peek 0xFFFF = s.cpu.ie ∧
    s.peek 0xFF0F = 0xE0 ||| s.cpu.iflag.setWidth 8 ∧
    (s.model = .cgb → s.peek 0xFF4D =
      (if s.cpu.key1Speed then 0x80 else 0x00) ||| 0x7E ||| (if s.cpu.key1Prepare then 0x01 else 0x00)) ∧
    (s.model = .dmg → s.peek 0xFF4D = 0xFF) ∧
    s.put 0xFFFF v = { s with cpu := { s.cpu with ie := v } } ∧
    s.put 0xFF0F v = { s with cpu := { s.cpu with iflag := v.extractLsb' 0 5 } } ∧
    (s.model = .cgb → s.put 0xFF4D v = { s with cpu := { s.cpu with key1Prepare := v.getLsbD 0 } }) ∧
    (s.model = .dmg → s.put 0xFF4D v = s)

/-- Plain storage reads back what was written (R116); ROM space and disabled external RAM keep what they read (R104,
R105); other cells never change. The map is the Bus's (R103): that echo RAM shares the cells of work RAM is the
model's log entry 12, and that the unusable region and the register file store nothing of themselves is log entry
11; the memory form is log entry 4. -/
def Obligations.PlainStorageReadsBack : Prop :=
  ∀ (s : State) (a x : Word) (v : Byte), s.platform.mem.wf →
    (regionOf a ∈ ([.videoRam, .workRam, .echoRam, .oam, .highRam] : List Region) ∨
        (regionOf a = .externalRam ∧ s.platform.ramEnabled = true) →
      (s.put a v).peek a = v ∧ (cellOf x = cellOf a → (s.put a v).peek x = v)) ∧
    (regionOf a ∈ ([.romBank0, .romBankN, .unusable, .registerFile] : List Region) ∨
        (regionOf a = .externalRam ∧ s.platform.ramEnabled = false) → s.put a v = s) ∧
    (cellOf x ≠ cellOf a → (s.put a v).peek x = s.peek x)

/-- The canonical form says everything about a memory (the model's own form of the bytes behind the bus, log entry
4): memories in it that read alike are equal, so a later store at a cell overwrites an earlier one and stores at
different cells commute, as lists. -/
def Obligations.MemoryFormIsCanonical : Prop :=
  (∀ m m' : Memory, m.wf → m'.wf → (∀ a, m.byteAt a = m'.byteAt a) → m = m') ∧
  (∀ (m : Memory) (a b : Nat) (v w : Byte), m.wf → Memory.isCell a = true → Memory.isCell b = true →
    (m.store a v).store a w = m.store a w ∧
    (a ≠ b → (m.store a v).store b w = (m.store b w).store a v) ∧
    (m.store a (m.byteAt a)) = m)

/-! ## 8-bit loads and stores -/

/-- LD r,r' (R201): `01 ddd sss`, `x[ddd] <- x[sss]`. LD r,d8 (R202): `00 ddd 110`, d8. LD r,(HL) (R203): `01 ddd
110`, the address formed before the register changes. Nothing else changes, no flag, no SP and no PC. -/
def Obligations.LdRegLoadsRegImmAndMemory : Prop :=
  BusCyclesKeepRegisters ∧
  (∀ c : Cpu, c.r8 .b = c.b ∧ c.r8 .c = c.c ∧ c.r8 .d = c.d ∧ c.r8 .e = c.e ∧ c.r8 .h = c.h ∧ c.r8 .l = c.l ∧
    c.r8 .a = c.a) ∧
  (∀ dst src, Spends (pat 0b01 (regField dst) (regField src)) [.f]) ∧
  (∀ dst, Spends (pat 0b00 (regField dst) 0b110) [.f, .f8] ∧ Spends (pat 0b01 (regField dst) 0b110) [.f, .r]) ∧
  (∀ (dst src : Reg8) (s : State) rest,
    decode (pat 0b01 (regField dst) (regField src) :: rest) = .ok (.ldReg dst src) rest ∧
    ∃ c', exec (.ldReg dst src) s = .next { s with cpu := c' } ∧ SetsReg dst (s.cpu.r8 src) s.cpu c') ∧
  (∀ (dst : Reg8) (v : Byte) (s : State) rest,
    decode (pat 0b00 (regField dst) 0b110 :: v :: rest) = .ok (.ldImm dst v) rest ∧
    ∃ c', exec (.ldImm dst v) s = .next { s with cpu := c' } ∧ SetsReg dst v s.cpu c') ∧
  (∀ (dst : Reg8) (s : State) rest,
    decode (pat 0b01 (regField dst) 0b110 :: rest) = .ok (.ldRegAtHl dst) rest ∧
    ∃ c', exec (.ldRegAtHl dst) s = .next { s.afterRead (s.cpu.h ++ s.cpu.l) with cpu := c' } ∧
      SetsReg dst (s.read (s.cpu.h ++ s.cpu.l)) (s.afterRead (s.cpu.h ++ s.cpu.l)).cpu c')

/-- LD (HL),r and LD (HL),d8 (R204, R205), and LD of A to (BC), (DE), (a16), (0xFF00+a8), (0xFF00+C) (R208, R209,
R211, R213, R215): one write, no register or flag changes. -/
def Obligations.LdStoresToMemory : Prop :=
  BusCyclesKeepRegisters ∧
  (∀ r, Spends (pat 0b01 0b110 (regField r)) [.f, .w]) ∧ Spends 0x36 [.f, .f8, .w] ∧ Spends 0x02 [.f, .w] ∧
  Spends 0x12 [.f, .w] ∧ Spends 0xEA [.f, .f8, .f8, .w] ∧ Spends 0xE0 [.f, .f8, .w] ∧ Spends 0xE2 [.f, .w] ∧
  (∀ (r : Reg8) (s : State) rest,
    decode (pat 0b01 0b110 (regField r) :: rest) = .ok (.ldAtHlReg r) rest ∧
    exec (.ldAtHlReg r) s = .next (s.write (s.cpu.h ++ s.cpu.l) (s.cpu.r8 r))) ∧
  (∀ (v : Byte) (s : State) rest,
    decode (0b00110110 :: v :: rest) = .ok (.ldAtHlImm v) rest ∧
    exec (.ldAtHlImm v) s = .next (s.write (s.cpu.h ++ s.cpu.l) v)) ∧
  (∀ (s : State) (lo hi o : Byte) rest,
    (decode (0x02 :: rest) = .ok .ldAtBcA rest ∧ exec .ldAtBcA s = .next (s.write (s.cpu.b ++ s.cpu.c) s.cpu.a)) ∧
    (decode (0x12 :: rest) = .ok .ldAtDeA rest ∧ exec .ldAtDeA s = .next (s.write (s.cpu.d ++ s.cpu.e) s.cpu.a)) ∧
    (decode (0xEA :: lo :: hi :: rest) = .ok (.ldAtAddrA (hi ++ lo)) rest ∧
      exec (.ldAtAddrA (hi ++ lo)) s = .next (s.write (hi ++ lo) s.cpu.a)) ∧
    (decode (0xE0 :: o :: rest) = .ok (.ldhAtOffA o) rest ∧
      exec (.ldhAtOffA o) s = .next (s.write (0xFF00 + o.setWidth 16) s.cpu.a)) ∧
    (decode (0xE2 :: rest) = .ok .ldAtCA rest ∧
      exec .ldAtCA s = .next (s.write (0xFF00 + s.cpu.c.setWidth 16) s.cpu.a)))

/-- LD A from (BC), (DE), (a16), (0xFF00+a8), (0xFF00+C) (R206, R207, R210, R212, R214): one read, A is the byte
read, no other register and no flag changes. -/
def Obligations.LdAFromIndirectReads : Prop :=
  BusCyclesKeepRegisters ∧
  Spends 0x0A [.f, .r] ∧ Spends 0x1A [.f, .r] ∧ Spends 0xFA [.f, .f8, .f8, .r] ∧ Spends 0xF0 [.f, .f8, .r] ∧
  Spends 0xF2 [.f, .r] ∧
  ∀ (s : State) (lo hi o : Byte) rest,
    let loaded := fun a : Word => ({ s.afterRead a with cpu := { (s.afterRead a).cpu with a := s.read a } } : State)
    (decode (0x0A :: rest) = .ok .ldAAtBc rest ∧ exec .ldAAtBc s = .next (loaded (s.cpu.b ++ s.cpu.c))) ∧
    (decode (0x1A :: rest) = .ok .ldAAtDe rest ∧ exec .ldAAtDe s = .next (loaded (s.cpu.d ++ s.cpu.e))) ∧
    (decode (0xFA :: lo :: hi :: rest) = .ok (.ldAAtAddr (hi ++ lo)) rest ∧
      exec (.ldAAtAddr (hi ++ lo)) s = .next (loaded (hi ++ lo))) ∧
    (decode (0xF0 :: o :: rest) = .ok (.ldhAAtOff o) rest ∧
      exec (.ldhAAtOff o) s = .next (loaded (0xFF00 + o.setWidth 16))) ∧
    (decode (0xF2 :: rest) = .ok .ldAAtC rest ∧ exec .ldAAtC s = .next (loaded (0xFF00 + s.cpu.c.setWidth 16)))

/-- LD (HL+),A, LD (HL-),A, LD A,(HL+), LD A,(HL-) (R216 to R219): the access at the old HL, then HL one up or
down modulo 2^16; no flag changes. -/
def Obligations.LdHlIncrementAndDecrement : Prop :=
  BusCyclesKeepRegisters ∧
  Spends 0x22 [.f, .w] ∧ Spends 0x32 [.f, .w] ∧ Spends 0x2A [.f, .r] ∧ Spends 0x3A [.f, .r] ∧
  ∀ (s : State) rest,
    let hl : Word := s.cpu.h ++ s.cpu.l
    let moved := fun (t : State) (v : Word) =>
      ({ t with cpu := { t.cpu with h := v.extractLsb' 8 8, l := v.extractLsb' 0 8 } } : State)
    let loaded : State := { s.afterRead hl with cpu := { (s.afterRead hl).cpu with a := s.read hl } }
    (decode (0x22 :: rest) = .ok .ldAtHlIncA rest ∧
      exec .ldAtHlIncA s = .next (moved (s.write hl s.cpu.a) (hl + 1))) ∧
    (decode (0x32 :: rest) = .ok .ldAtHlDecA rest ∧
      exec .ldAtHlDecA s = .next (moved (s.write hl s.cpu.a) (hl - 1))) ∧
    (decode (0x2A :: rest) = .ok .ldAAtHlInc rest ∧ exec .ldAAtHlInc s = .next (moved loaded (hl + 1))) ∧
    (decode (0x3A :: rest) = .ok .ldAAtHlDec rest ∧ exec .ldAAtHlDec s = .next (moved loaded (hl - 1)))

/-! ## 16-bit loads and the stack -/

/-- LD rr,d16 loads the pair (R250); LD SP,HL takes one Idle and then SP is HL (R252); nothing else changes, no flag,
no PC and no other pair. -/
def Obligations.LdPairFromImmediateAndHl : Prop :=
  BusCyclesKeepRegisters ∧
  (∀ p, Spends (patP 0b00 (pairField p) 0b0 0b001) [.f, .f8, .f8]) ∧ Spends 0xF9 [.f, .i] ∧
  (∀ c : Cpu, c.pair .bc = c.b ++ c.c ∧ c.pair .de = c.d ++ c.e ∧ c.pair .hl = c.h ++ c.l ∧ c.pair .sp = c.sp) ∧
  (∀ (p : Pair) (lo hi : Byte) (s : State) rest,
    decode (patP 0b00 (pairField p) 0b0 0b001 :: lo :: hi :: rest) = .ok (.ldPairImm p (hi ++ lo)) rest ∧
    ∃ c', exec (.ldPairImm p (hi ++ lo)) s = .next { s with cpu := c' } ∧ SetsPair p (hi ++ lo) s.cpu c') ∧
  (∀ (s : State) rest, decode (0xF9 :: rest) = .ok .ldSpHl rest ∧
    exec .ldSpHl s = .next { s.idle with cpu := { s.idle.cpu with sp := s.cpu.h ++ s.cpu.l } })

/-- LD (a16),SP (R251; the spec's decision D2): SP's low byte at a, then its high byte at a + 1; no register
changes. -/
def Obligations.LdStoresSpLowThenHigh : Prop :=
  BusCyclesKeepRegisters ∧
  Spends 0x08 [.f, .f8, .f8, .w, .w] ∧
  ∀ (lo hi : Byte) (s : State) rest,
    decode (0x08 :: lo :: hi :: rest) = .ok (.ldAtAddrSp (hi ++ lo)) rest ∧
    exec (.ldAtAddrSp (hi ++ lo)) s =
      .next ((s.write (hi ++ lo) (s.cpu.sp.extractLsb' 0 8)).write ((hi ++ lo : Word) + 1) (s.cpu.sp.extractLsb' 8 8))

/-- LD HL,SP+e8 and ADD SP,e8 (R253, R353; the flags are the spec's decision D28): SP plus the signed offset; Z =
N = 0, H and C from the unsigned low nibbles and low bytes; one Idle, or two. -/
def Obligations.SpOffsetSumsAndFlags : Prop :=
  BusCyclesKeepRegisters ∧
  Spends 0xF8 [.f, .f8, .i] ∧ Spends 0xE8 [.f, .f8, .i, .i] ∧
  ∀ (e : Byte) (s : State) rest,
    let sum := offsetBy s.cpu.sp e
    let half := s.cpu.sp.toNat % 16 + e.toNat % 16 > 15
    let carry := s.cpu.sp.toNat % 256 + e.toNat > 255
    (decode (0xF8 :: e :: rest) = .ok (.ldHlSpImm e) rest ∧
      ∃ c', exec (.ldHlSpImm e) s = .next (State.idle { s with cpu := c' }) ∧ FlagsAre c' False False half carry ∧
        c' = { s.cpu with h := sum.extractLsb' 8 8, l := sum.extractLsb' 0 8, f := c'.f }) ∧
    (decode (0xE8 :: e :: rest) = .ok (.addSpImm e) rest ∧
      ∃ c', exec (.addSpImm e) s = .next (State.idle (State.idle { s with cpu := c' })) ∧
        FlagsAre c' False False half carry ∧ c' = { s.cpu with sp := sum, f := c'.f })

/-- PUSH rr (R254): Idle, then the pair's high byte at SP-1 and its low byte at SP-2; SP is two lower. -/
def Obligations.PushStoresHighThenLow : Prop :=
  BusCyclesKeepRegisters ∧
  (∀ p, Spends (patP 0b11 (stackPairField p) 0b0 0b101) [.f, .i, .w, .w]) ∧
  (∀ c : Cpu, c.stackPair .bc = c.b ++ c.c ∧ c.stackPair .de = c.d ++ c.e ∧ c.stackPair .hl = c.h ++ c.l ∧
    c.stackPair .af = c.a ++ c.f) ∧
  ∀ (p : StackPair) (s : State) rest,
    decode (patP 0b11 (stackPairField p) 0b0 0b101 :: rest) = .ok (.push p) rest ∧
    exec (.push p) s = .next (pushed s.idle (s.cpu.stackPair p)) ∧
    (pushed s.idle (s.cpu.stackPair p)).cpu.sp = s.cpu.sp - 2

/-- POP rr and POP AF (R255, R256): low byte from SP, high byte from SP+1, SP two higher; a popped F keeps bits
7..4 only. -/
def Obligations.PopLoadsLowThenHigh : Prop :=
  BusCyclesKeepRegisters ∧
  (∀ p, Spends (patP 0b11 (stackPairField p) 0b0 0b001) [.f, .r, .r]) ∧
  ∀ (p : StackPair) (s : State) rest,
    decode (patP 0b11 (stackPairField p) 0b0 0b001 :: rest) = .ok (.pop p) rest ∧
    ∃ c', exec (.pop p) s = .next { popped s with cpu := c' } ∧ (popped s).cpu.sp = s.cpu.sp + 2 ∧
      match p with
      | .bc => c' = { (popped s).cpu with
          b := (poppedValue s).extractLsb' 8 8, c := (poppedValue s).extractLsb' 0 8 }
      | .de => c' = { (popped s).cpu with
          d := (poppedValue s).extractLsb' 8 8, e := (poppedValue s).extractLsb' 0 8 }
      | .hl => c' = { (popped s).cpu with
          h := (poppedValue s).extractLsb' 8 8, l := (poppedValue s).extractLsb' 0 8 }
      | .af => c' = { (popped s).cpu with
          a := (poppedValue s).extractLsb' 8 8, f := (poppedValue s).extractLsb' 0 8 &&& 0xF0 }

/-! ## 8-bit arithmetic and logic -/

/-- ADD A and ADC A (R301 to R306): the exact sum, with the carry before the instruction for ADC, narrowed to A,
and its flags. -/
def Obligations.AddAdcSumIntoA : Prop :=
  AluForms .add (AddsWith 0) ∧ AluForms .adc fun c v c' => AddsWith c.flagC.toNat c v c'

/-- SUB and SBC A (R307 to R312): the exact difference, with the carry before the instruction for SBC, narrowed to
A, and its flags. CP (R322 to R324): the flags of SUB, and A unchanged. -/
def Obligations.SubSbcCpSubtractFromA : Prop :=
  AluForms .sub (SubtractsWith 0) ∧ (AluForms .sbc fun c v c' => SubtractsWith c.flagC.toNat c v c') ∧
  AluForms .cp Compares

/-- AND, XOR, OR (R313 to R321): bit by bit into A; Z from the result, H set only by AND, N = C = 0. -/
def Obligations.LogicOperationsIntoA : Prop :=
  AluForms .and (BitwiseWith Bool.and True) ∧ AluForms .xor (BitwiseWith Bool.xor False) ∧
  AluForms .or (BitwiseWith Bool.or False)

/-- INC r, INC (HL), DEC r, DEC (HL) (R325 to R328): one up or down modulo 256, Z N H computed, C kept; the memory
forms read HL once and then write it. -/
def Obligations.IncDecByteKeepsCarry : Prop :=
  let incFlags := fun (v : Byte) (c c' : Cpu) =>
    FlagsAre c' ((v.toNat + 1) % 256 = 0) False (v.toNat % 16 = 15) (c.flagC = true)
  let decFlags := fun (v : Byte) (c c' : Cpu) =>
    FlagsAre c' (v.toNat = 1) True (v.toNat % 16 = 0) (c.flagC = true)
  BusCyclesKeepRegisters ∧
  (∀ r, Spends (pat 0b00 (regField r) 0b100) [.f] ∧ Spends (pat 0b00 (regField r) 0b101) [.f]) ∧
  Spends 0x34 [.f, .r, .w] ∧ Spends 0x35 [.f, .r, .w] ∧
  (∀ (r : Reg8) (s : State) rest,
    decode (pat 0b00 (regField r) 0b100 :: rest) = .ok (.incReg r) rest ∧
    ∃ c', exec (.incReg r) s = .next { s with cpu := c' } ∧ OnlyRegF r s.cpu c' ∧
      (c'.r8 r).toNat = ((s.cpu.r8 r).toNat + 1) % 256 ∧ incFlags (s.cpu.r8 r) s.cpu c') ∧
  (∀ (r : Reg8) (s : State) rest,
    decode (pat 0b00 (regField r) 0b101 :: rest) = .ok (.decReg r) rest ∧
    ∃ c', exec (.decReg r) s = .next { s with cpu := c' } ∧ OnlyRegF r s.cpu c' ∧
      (c'.r8 r).toNat = ((s.cpu.r8 r).toNat + 255) % 256 ∧ decFlags (s.cpu.r8 r) s.cpu c') ∧
  (∀ (s : State) rest,
    let hl : Word := s.cpu.h ++ s.cpu.l
    (decode (0x34 :: rest) = .ok .incAtHl rest ∧
      ∃ c', exec .incAtHl s = .next (State.write { s.afterRead hl with cpu := c' } hl (s.read hl + 1)) ∧
        OnlyF (s.afterRead hl).cpu c' ∧ incFlags (s.read hl) s.cpu c') ∧
    (decode (0x35 :: rest) = .ok .decAtHl rest ∧
      ∃ c', exec .decAtHl s = .next (State.write { s.afterRead hl with cpu := c' } hl (s.read hl - 1)) ∧
        OnlyF (s.afterRead hl).cpu c' ∧ decFlags (s.read hl) s.cpu c'))

/-! ## 16-bit arithmetic -/

/-- ADD HL,rr (R350): the exact sum narrowed to HL; Z kept, N = 0, H out of bit 11, C out of bit 15; one Idle. -/
def Obligations.AddHlKeepsZ : Prop :=
  BusCyclesKeepRegisters ∧
  (∀ p, Spends (patP 0b00 (pairField p) 0b1 0b001) [.f, .i]) ∧
  ∀ (p : Pair) (s : State) rest,
    decode (patP 0b00 (pairField p) 0b1 0b001 :: rest) = .ok (.addHlPair p) rest ∧
    ∃ c', exec (.addHlPair p) s = .next (State.idle { s with cpu := c' }) ∧
      c'.hl.toNat = (s.cpu.hl.toNat + (s.cpu.pair p).toNat) % 65536 ∧
      FlagsAre c' (s.cpu.flagZ = true) False (s.cpu.hl.toNat % 4096 + (s.cpu.pair p).toNat % 4096 > 4095)
        (s.cpu.hl.toNat + (s.cpu.pair p).toNat > 65535) ∧
      c' = { s.cpu with h := c'.h, l := c'.l, f := c'.f }

/-- INC rr and DEC rr (R351, R352): one up or down modulo 2^16, no flag changes, one Idle. -/
def Obligations.IncDecPairChangesNoFlag : Prop :=
  BusCyclesKeepRegisters ∧
  (∀ p q, Spends (patP 0b00 (pairField p) q 0b011) [.f, .i]) ∧
  ∀ (p : Pair) (s : State) rest,
    (decode (patP 0b00 (pairField p) 0b0 0b011 :: rest) = .ok (.incPair p) rest ∧
      ∃ c', exec (.incPair p) s = .next (State.idle { s with cpu := c' }) ∧
        SetsPair p (s.cpu.pair p + 1) s.cpu c') ∧
    (decode (patP 0b00 (pairField p) 0b1 0b011 :: rest) = .ok (.decPair p) rest ∧
      ∃ c', exec (.decPair p) s = .next (State.idle { s with cpu := c' }) ∧
        SetsPair p (s.cpu.pair p - 1) s.cpu c')

/-! ## Rotates, shifts, bits -/

/-- RLCA, RRCA, RLA, RRA (R381 to R384): as the CB forms on A, but Z is cleared. -/
def Obligations.AccumulatorRotatesClearZ : Prop :=
  Spends 0x07 [.f] ∧ Spends 0x0F [.f] ∧ Spends 0x17 [.f] ∧ Spends 0x1F [.f] ∧
  ∀ (s : State) rest,
    let rotates := fun (op : ShiftOp) (i : Instr) => ∃ c', exec i s = .next { s with cpu := c' } ∧ OnlyAF s.cpu c' ∧
      c'.a.toNat = shiftResult op s.cpu.a.toNat s.cpu.flagC.toNat ∧
      FlagsAre c' False False False (shiftCarry op s.cpu.a.toNat)
    (decode (0x07 :: rest) = .ok .rlca rest ∧ rotates .rlc .rlca) ∧
    (decode (0x0F :: rest) = .ok .rrca rest ∧ rotates .rrc .rrca) ∧
    (decode (0x17 :: rest) = .ok .rla rest ∧ rotates .rl .rla) ∧
    (decode (0x1F :: rest) = .ok .rra rest ∧ rotates .rr .rra)

/-- RLC, RRC, RL, RR with r and (HL) (R385 to R392): the result and the carry in exact arithmetic, Z from the result,
N = H = 0; the memory form reads HL once and then writes it. -/
def Obligations.CbRotates : Prop := ShiftForms .rlc ∧ ShiftForms .rrc ∧ ShiftForms .rl ∧ ShiftForms .rr

/-- SLA, SRA, SWAP, SRL with r and (HL) (R393 to R400): the result and the carry (0 for SWAP) in exact arithmetic, Z
from the result, N = H = 0; the memory form reads HL once and then writes it. -/
def Obligations.CbShiftsAndSwap : Prop := ShiftForms .sla ∧ ShiftForms .sra ∧ ShiftForms .swap ∧ ShiftForms .srl

/-- BIT b,r and BIT b,(HL) (R420, R421): Z is the complement of the bit, N = 0, H = 1, C kept; nothing is written. -/
def Obligations.BitTestsWithoutWriting : Prop :=
  BusCyclesKeepRegisters ∧
  (∀ b r, SpendsCb (pat 0b01 (indexField b) (regField r)) [.f, .f8]) ∧
  (∀ b, SpendsCb (pat 0b01 (indexField b) 0b110) [.f, .f8, .r]) ∧
  (∀ (b : Fin 8) (r : Reg8) (s : State) rest,
    decode (0xCB :: pat 0b01 (indexField b) (regField r) :: rest) = .ok (.bitReg b r) rest ∧
    ∃ c', exec (.bitReg b r) s = .next { s with cpu := c' } ∧ OnlyF s.cpu c' ∧
      FlagsAre c' ((s.cpu.r8 r).getLsbD b.val = false) False True (s.cpu.flagC = true)) ∧
  (∀ (b : Fin 8) (s : State) rest,
    decode (0xCB :: pat 0b01 (indexField b) 0b110 :: rest) = .ok (.bitAtHl b) rest ∧
    ∃ c', exec (.bitAtHl b) s = .next { s.afterRead s.cpu.hl with cpu := c' } ∧
      OnlyF (s.afterRead s.cpu.hl).cpu c' ∧
      FlagsAre c' ((s.read s.cpu.hl).getLsbD b.val = false) False True (s.cpu.flagC = true))

/-- RES and SET with r and (HL) (R422 to R425): bit b becomes 0 or 1, the other bits stay, no flag changes; the
memory forms read once and always write. -/
def Obligations.ResSetChangeOneBit : Prop :=
  let changed := fun (b : Fin 8) (bit : Bool) (v v' : Byte) =>
    ∀ k < 8, v'.getLsbD k = if k = b.val then bit else v.getLsbD k
  BusCyclesKeepRegisters ∧
  (∀ b r, SpendsCb (pat 0b10 (indexField b) (regField r)) [.f, .f8] ∧
    SpendsCb (pat 0b11 (indexField b) (regField r)) [.f, .f8]) ∧
  (∀ b, SpendsCb (pat 0b10 (indexField b) 0b110) [.f, .f8, .r, .w] ∧
    SpendsCb (pat 0b11 (indexField b) 0b110) [.f, .f8, .r, .w]) ∧
  (∀ (b : Fin 8) (r : Reg8) (s : State) rest,
    (decode (0xCB :: pat 0b10 (indexField b) (regField r) :: rest) = .ok (.resReg b r) rest ∧
      ∃ c' v', exec (.resReg b r) s = .next { s with cpu := c' } ∧ SetsReg r v' s.cpu c' ∧
        changed b false (s.cpu.r8 r) v') ∧
    (decode (0xCB :: pat 0b11 (indexField b) (regField r) :: rest) = .ok (.setReg b r) rest ∧
      ∃ c' v', exec (.setReg b r) s = .next { s with cpu := c' } ∧ SetsReg r v' s.cpu c' ∧
        changed b true (s.cpu.r8 r) v')) ∧
  (∀ (b : Fin 8) (s : State) rest,
    (decode (0xCB :: pat 0b10 (indexField b) 0b110 :: rest) = .ok (.resAtHl b) rest ∧
      ∃ v', exec (.resAtHl b) s = .next ((s.afterRead s.cpu.hl).write s.cpu.hl v') ∧
        changed b false (s.read s.cpu.hl) v') ∧
    (decode (0xCB :: pat 0b11 (indexField b) 0b110 :: rest) = .ok (.setAtHl b) rest ∧
      ∃ v', exec (.setAtHl b) s = .next ((s.afterRead s.cpu.hl).write s.cpu.hl v') ∧
        changed b true (s.read s.cpu.hl) v'))

/-! ## Control transfer -/

/-- JP a16, JP cc,a16, JP HL, JR e8, JR cc,e8 (R441 to R445): one Idle where the jump is taken (none for JP HL);
not taken, nothing changes. The conditions read Z (bit 7 of F) and C (bit 4) (R155). -/
def Obligations.JumpsSetPcWhenConditionHolds : Prop :=
  BusCyclesKeepRegisters ∧
  Spends 0xC3 [.f, .f8, .f8, .i] ∧ Spends 0xE9 [.f] ∧ Spends 0x18 [.f, .f8, .i] ∧
  (∀ cc, SpendsIf (patC 0b110 (condField cc) 0b010) cc [.f, .f8, .f8, .i] [.f, .f8, .f8] ∧
    SpendsIf (patC 0b001 (condField cc) 0b000) cc [.f, .f8, .i] [.f, .f8]) ∧
  (∀ c : Cpu, (c.cond .nz = true ↔ c.f.getLsbD 7 = false) ∧ (c.cond .z = true ↔ c.f.getLsbD 7 = true) ∧
    (c.cond .nc = true ↔ c.f.getLsbD 4 = false) ∧ (c.cond .c = true ↔ c.f.getLsbD 4 = true)) ∧
  (∀ (lo hi e : Byte) (s : State) rest,
    let jumped := fun (t : State) (target : Word) => ({ t with cpu := { t.cpu with pc := target } } : State)
    (decode (0xC3 :: lo :: hi :: rest) = .ok (.jp (hi ++ lo)) rest ∧
      exec (.jp (hi ++ lo)) s = .next (jumped s.idle (hi ++ lo))) ∧
    (decode (0xE9 :: rest) = .ok .jpHl rest ∧ exec .jpHl s = .next (jumped s (s.cpu.h ++ s.cpu.l))) ∧
    (decode (0x18 :: e :: rest) = .ok (.jr e) rest ∧
      exec (.jr e) s = .next (jumped s.idle (offsetBy s.cpu.pc e))) ∧
    (∀ cc, decode (patC 0b110 (condField cc) 0b010 :: lo :: hi :: rest) = .ok (.jpCond cc (hi ++ lo)) rest ∧
      exec (.jpCond cc (hi ++ lo)) s = .next (if s.cpu.cond cc then jumped s.idle (hi ++ lo) else s)) ∧
    (∀ cc, decode (patC 0b001 (condField cc) 0b000 :: e :: rest) = .ok (.jrCond cc e) rest ∧
      exec (.jrCond cc e) s = .next (if s.cpu.cond cc then jumped s.idle (offsetBy s.cpu.pc e) else s)))

/-- CALL a16, CALL cc,a16, RST (R446, R447, R451): Idle, the address after the instruction is pushed, PC is the
target; a call not taken changes nothing. -/
def Obligations.CallsPushReturnAddress : Prop :=
  BusCyclesKeepRegisters ∧
  Spends 0xCD [.f, .f8, .f8, .i, .w, .w] ∧
  (∀ cc, SpendsIf (patC 0b110 (condField cc) 0b100) cc [.f, .f8, .f8, .i, .w, .w] [.f, .f8, .f8]) ∧
  (∀ t, Spends (pat 0b11 (indexField t) 0b111) [.f, .i, .w, .w]) ∧
  ∀ (lo hi : Byte) (s : State) rest,
    let called := fun target : Word =>
      ({ pushed s.idle s.cpu.pc with cpu := { (pushed s.idle s.cpu.pc).cpu with pc := target } } : State)
    (decode (0xCD :: lo :: hi :: rest) = .ok (.call (hi ++ lo)) rest ∧
      exec (.call (hi ++ lo)) s = .next (called (hi ++ lo))) ∧
    (∀ cc, decode (patC 0b110 (condField cc) 0b100 :: lo :: hi :: rest) = .ok (.callCond cc (hi ++ lo)) rest ∧
      exec (.callCond cc (hi ++ lo)) s = .next (if s.cpu.cond cc then called (hi ++ lo) else s)) ∧
    (∀ t, decode (pat 0b11 (indexField t) 0b111 :: rest) = .ok (.rst t) rest ∧
      exec (.rst t) s = .next (called (BitVec.ofNat 16 (8 * t.val))))

/-- RET, RET cc (R448, R449): PC is popped, low byte first, then Idle; RET cc spends one Idle on the test first;
IME is not changed. -/
def Obligations.ReturnsPopPc : Prop :=
  BusCyclesKeepRegisters ∧
  Spends 0xC9 [.f, .r, .r, .i] ∧
  (∀ cc, SpendsIf (patC 0b110 (condField cc) 0b000) cc [.f, .i, .r, .r, .i] [.f, .i]) ∧
  ∀ (s : State) rest,
    let returned := fun t : State =>
      ({ (popped t).idle with cpu := { (popped t).idle.cpu with pc := poppedValue t } } : State)
    (decode (0xC9 :: rest) = .ok .ret rest ∧ exec .ret s = .next (returned s)) ∧
    (∀ cc, decode (patC 0b110 (condField cc) 0b000 :: rest) = .ok (.retCond cc) rest ∧
      exec (.retCond cc) s = .next (if s.cpu.cond cc then returned s.idle else s.idle))

/-- DI, EI and RETI (R485, R486, R450; the spec's decisions D6 and D7): DI clears IME and the latch at once, EI
sets the latch only, and RETI returns as RET does, sets IME at once and writes no latch. -/
def Obligations.DiEiRetiWriteImeAndLatch : Prop :=
  BusCyclesKeepRegisters ∧
  Spends 0xF3 [.f] ∧ Spends 0xFB [.f] ∧ Spends 0xD9 [.f, .r, .r, .i] ∧
  ∀ (s : State) rest,
    let back := (popped s).idle
    (decode (0xF3 :: rest) = .ok .di rest ∧
      exec .di s = .next { s with cpu := { s.cpu with ime := false, imeLatch := false } }) ∧
    (decode (0xFB :: rest) = .ok .ei rest ∧ exec .ei s = .next { s with cpu := { s.cpu with imeLatch := true } }) ∧
    (decode (0xD9 :: rest) = .ok .reti rest ∧
      exec .reti s = .next { back with cpu := { back.cpu with pc := poppedValue s, ime := true } })

/-! ## Miscellaneous and system instructions -/

/-- NOP changes nothing; CPL complements A with N = H = 1; SCF sets C and CCF complements it, with N = H = 0; Z is kept
(R480, R482 to R484). The flags are bits 7 to 4 of F (R42). -/
def Obligations.NopComplementAndCarry : Prop :=
  (∀ op ∈ ([0x00, 0x2F, 0x37, 0x3F] : List Byte), Spends op [.f]) ∧
  (∀ c : Cpu, c.flagZ = c.f.getLsbD 7 ∧ c.flagN = c.f.getLsbD 6 ∧ c.flagH = c.f.getLsbD 5 ∧
    c.flagC = c.f.getLsbD 4) ∧
  ∀ (s : State) rest,
    (decode (0x00 :: rest) = .ok .nop rest ∧ exec .nop s = .next s) ∧
    (decode (0x2F :: rest) = .ok .cpl rest ∧ ∃ c', exec .cpl s = .next { s with cpu := c' } ∧ OnlyAF s.cpu c' ∧
      c'.a = ~~~ s.cpu.a ∧ FlagsAre c' (s.cpu.flagZ = true) True True (s.cpu.flagC = true)) ∧
    (decode (0x37 :: rest) = .ok .scf rest ∧ ∃ c', exec .scf s = .next { s with cpu := c' } ∧ OnlyF s.cpu c' ∧
      FlagsAre c' (s.cpu.flagZ = true) False False True) ∧
    (decode (0x3F :: rest) = .ok .ccf rest ∧ ∃ c', exec .ccf s = .next { s with cpu := c' } ∧ OnlyF s.cpu c' ∧
      FlagsAre c' (s.cpu.flagZ = true) False False (s.cpu.flagC = false))

/-- DAA (R481; the spec's decision D24): A and C as the exact algorithm gives them; Z from the new A, N kept, H =
0. -/
def Obligations.DaaAdjustsA : Prop :=
  Spends 0x27 [.f] ∧
  ∀ (s : State) rest,
    let r := daaResult s.cpu.a.toNat s.cpu.flagN s.cpu.flagH s.cpu.flagC
    decode (0x27 :: rest) = .ok .daa rest ∧
    ∃ c', exec .daa s = .next { s with cpu := c' } ∧ OnlyAF s.cpu c' ∧ c'.a.toNat = r.1 ∧
      FlagsAre c' (r.1 = 0) (s.cpu.flagN = true) False (r.2 = true)

/-- HALT (R487; the spec's decision D8): with IME = 0 and an interrupt pending it sets halt_bug and does not halt;
otherwise it halts. -/
def Obligations.HaltHaltsOrSetsHaltBug : Prop :=
  Spends 0x76 [.f] ∧
  ∀ (s : State) rest, decode (0x76 :: rest) = .ok .halt rest ∧
    (s.cpu.ime = false ∧ s.cpu.pending ≠ 0 → exec .halt s = .next { s with cpu := { s.cpu with haltBug := true } }) ∧
    (¬ (s.cpu.ime = false ∧ s.cpu.pending ≠ 0) →
      exec .halt s = .next { s with cpu := { s.cpu with halted := true } })

/-- STOP (R488; the spec's decisions D10, D29): PC skips the second byte with no access; a CGB with prepare set
toggles its speed and clears prepare, anything else stops. -/
def Obligations.StopStopsOrSwitchesSpeed : Prop :=
  Spends 0x10 [.f] ∧
  ∀ (skipped : Byte) (s : State) rest, decode (0x10 :: skipped :: rest) = .ok .stop rest ∧
    (s.model = .cgb ∧ s.cpu.key1Prepare = true → exec .stop s = .next { s with cpu := { s.cpu with
      pc := s.cpu.pc + 1, key1Speed := !s.cpu.key1Speed, key1Prepare := false } }) ∧
    (¬ (s.model = .cgb ∧ s.cpu.key1Prepare = true) →
      exec .stop s = .next { s with cpu := { s.cpu with pc := s.cpu.pc + 1, stopped := true } })

/-- The CB prefix (R489): it fetches a byte and then does what the CB instruction that the byte selects does. R167
says that the prefix is not an instruction of its own; that the byte 0xCB alone decodes to a constructor is the
model's choice (log entry 10). -/
def Obligations.PrefixRunsSelectedCbInstruction : Prop :=
  (∀ op2, SpendsCb op2 (cbSequence op2)) ∧
  ∀ s : State, decode [0xCB] = .ok .prefixCb [] ∧
    exec .prefixCb s = exec (cbEntry s.fetch8.1) s.fetch8.2 ∧ ∃ t, exec .prefixCb s = .next t

/-- The eleven unassigned opcodes (R490; the spec's decision D3) lock the core and change nothing else. -/
def Obligations.UnassignedOpcodesLock : Prop :=
  (∀ op ∈ unassignedOpcodes, Spends op [.f]) ∧
  ∀ (k : Fin 11) (s : State) rest,
    decode (unassignedOpcodes.getD k.val 0 :: rest) = .ok (.unassigned k) rest ∧
    exec (.unassigned k) s = .next { s with cpu := { s.cpu with locked := true } }
end

