-- ==== Sys2Proof/Laws/State.lean ====
section
/-! SUPPORT. What each update of the state leaves in each field: one simp lemma per update, a conjunction with
one equation per field, so that no later proof unfolds a record update. -/

namespace Sys2Proof.Machine

/-! ## Updates of the core -/

/-- Fields after a write of F. -/
@[simp] theorem Cpu.setF_fields (c : Cpu) (v : Byte) :
    (c.setF v).a = c.a ∧ (c.setF v).f = v &&& 0xF0 ∧ (c.setF v).b = c.b ∧ (c.setF v).c = c.c ∧
    (c.setF v).d = c.d ∧ (c.setF v).e = c.e ∧ (c.setF v).h = c.h ∧ (c.setF v).l = c.l ∧ (c.setF v).sp = c.sp ∧
    (c.setF v).pc = c.pc ∧ (c.setF v).ime = c.ime ∧ (c.setF v).imeLatch = c.imeLatch ∧
    (c.setF v).halted = c.halted ∧ (c.setF v).haltBug = c.haltBug ∧ (c.setF v).stopped = c.stopped ∧
    (c.setF v).locked = c.locked ∧ (c.setF v).cycles = c.cycles ∧ (c.setF v).ie = c.ie ∧
    (c.setF v).iflag = c.iflag ∧ (c.setF v).key1Prepare = c.key1Prepare ∧ (c.setF v).key1Speed = c.key1Speed :=
  ⟨rfl, rfl, rfl, rfl, rfl, rfl, rfl, rfl, rfl, rfl, rfl, rfl, rfl, rfl, rfl, rfl, rfl, rfl, rfl, rfl, rfl⟩

/-- Fields after a write of the flags. -/
@[simp] theorem Cpu.setFlags_fields (c : Cpu) (z n h cy : Bool) :
    (c.setFlags z n h cy).a = c.a ∧ (c.setFlags z n h cy).f = packFlags z n h cy ∧ (c.setFlags z n h cy).b = c.b ∧
    (c.setFlags z n h cy).c = c.c ∧ (c.setFlags z n h cy).d = c.d ∧ (c.setFlags z n h cy).e = c.e ∧
    (c.setFlags z n h cy).h = c.h ∧ (c.setFlags z n h cy).l = c.l ∧ (c.setFlags z n h cy).sp = c.sp ∧
    (c.setFlags z n h cy).pc = c.pc ∧ (c.setFlags z n h cy).ime = c.ime ∧
    (c.setFlags z n h cy).imeLatch = c.imeLatch ∧ (c.setFlags z n h cy).halted = c.halted ∧
    (c.setFlags z n h cy).haltBug = c.haltBug ∧ (c.setFlags z n h cy).stopped = c.stopped ∧
    (c.setFlags z n h cy).locked = c.locked ∧ (c.setFlags z n h cy).cycles = c.cycles ∧
    (c.setFlags z n h cy).ie = c.ie ∧ (c.setFlags z n h cy).iflag = c.iflag ∧
    (c.setFlags z n h cy).key1Prepare = c.key1Prepare ∧ (c.setFlags z n h cy).key1Speed = c.key1Speed :=
  ⟨rfl, rfl, rfl, rfl, rfl, rfl, rfl, rfl, rfl, rfl, rfl, rfl, rfl, rfl, rfl, rfl, rfl, rfl, rfl, rfl, rfl⟩

/-- Fields after the flags of an 8-bit function. -/
@[simp] theorem Cpu.putFlags_fields (c : Cpu) (o : Out8) :
    (c.putFlags o).a = c.a ∧ (c.putFlags o).f = packFlags o.z o.n o.h o.c ∧ (c.putFlags o).b = c.b ∧
    (c.putFlags o).c = c.c ∧ (c.putFlags o).d = c.d ∧ (c.putFlags o).e = c.e ∧ (c.putFlags o).h = c.h ∧
    (c.putFlags o).l = c.l ∧ (c.putFlags o).sp = c.sp ∧ (c.putFlags o).pc = c.pc ∧ (c.putFlags o).ime = c.ime ∧
    (c.putFlags o).imeLatch = c.imeLatch ∧ (c.putFlags o).halted = c.halted ∧ (c.putFlags o).haltBug = c.haltBug ∧
    (c.putFlags o).stopped = c.stopped ∧ (c.putFlags o).locked = c.locked ∧ (c.putFlags o).cycles = c.cycles ∧
    (c.putFlags o).ie = c.ie ∧ (c.putFlags o).iflag = c.iflag ∧ (c.putFlags o).key1Prepare = c.key1Prepare ∧
    (c.putFlags o).key1Speed = c.key1Speed :=
  ⟨rfl, rfl, rfl, rfl, rfl, rfl, rfl, rfl, rfl, rfl, rfl, rfl, rfl, rfl, rfl, rfl, rfl, rfl, rfl, rfl, rfl⟩

/-- Fields after BIT. -/
@[simp] theorem Cpu.testBit_fields (c : Cpu) (b : Fin 8) (v : Byte) :
    (c.testBit b v).a = c.a ∧ (c.testBit b v).f = packFlags (!v.getLsbD b.val) false true c.flagC ∧
    (c.testBit b v).b = c.b ∧ (c.testBit b v).c = c.c ∧ (c.testBit b v).d = c.d ∧ (c.testBit b v).e = c.e ∧
    (c.testBit b v).h = c.h ∧ (c.testBit b v).l = c.l ∧ (c.testBit b v).sp = c.sp ∧ (c.testBit b v).pc = c.pc ∧
    (c.testBit b v).ime = c.ime ∧ (c.testBit b v).imeLatch = c.imeLatch ∧ (c.testBit b v).halted = c.halted ∧
    (c.testBit b v).haltBug = c.haltBug ∧ (c.testBit b v).stopped = c.stopped ∧
    (c.testBit b v).locked = c.locked ∧ (c.testBit b v).cycles = c.cycles ∧ (c.testBit b v).ie = c.ie ∧
    (c.testBit b v).iflag = c.iflag ∧ (c.testBit b v).key1Prepare = c.key1Prepare ∧
    (c.testBit b v).key1Speed = c.key1Speed :=
  ⟨rfl, rfl, rfl, rfl, rfl, rfl, rfl, rfl, rfl, rfl, rfl, rfl, rfl, rfl, rfl, rfl, rfl, rfl, rfl, rfl, rfl⟩

/-- Fields after a write of BC. -/
@[simp] theorem Cpu.setBc_fields (c : Cpu) (v : Word) :
    (c.setBc v).a = c.a ∧ (c.setBc v).f = c.f ∧ (c.setBc v).b = hiByte v ∧ (c.setBc v).c = loByte v ∧
    (c.setBc v).d = c.d ∧ (c.setBc v).e = c.e ∧ (c.setBc v).h = c.h ∧ (c.setBc v).l = c.l ∧
    (c.setBc v).sp = c.sp ∧ (c.setBc v).pc = c.pc ∧ (c.setBc v).ime = c.ime ∧ (c.setBc v).imeLatch = c.imeLatch ∧
    (c.setBc v).halted = c.halted ∧ (c.setBc v).haltBug = c.haltBug ∧ (c.setBc v).stopped = c.stopped ∧
    (c.setBc v).locked = c.locked ∧ (c.setBc v).cycles = c.cycles ∧ (c.setBc v).ie = c.ie ∧
    (c.setBc v).iflag = c.iflag ∧ (c.setBc v).key1Prepare = c.key1Prepare ∧ (c.setBc v).key1Speed = c.key1Speed :=
  ⟨rfl, rfl, rfl, rfl, rfl, rfl, rfl, rfl, rfl, rfl, rfl, rfl, rfl, rfl, rfl, rfl, rfl, rfl, rfl, rfl, rfl⟩

/-- Fields after a write of DE. -/
@[simp] theorem Cpu.setDe_fields (c : Cpu) (v : Word) :
    (c.setDe v).a = c.a ∧ (c.setDe v).f = c.f ∧ (c.setDe v).b = c.b ∧ (c.setDe v).c = c.c ∧
    (c.setDe v).d = hiByte v ∧ (c.setDe v).e = loByte v ∧ (c.setDe v).h = c.h ∧ (c.setDe v).l = c.l ∧
    (c.setDe v).sp = c.sp ∧ (c.setDe v).pc = c.pc ∧ (c.setDe v).ime = c.ime ∧ (c.setDe v).imeLatch = c.imeLatch ∧
    (c.setDe v).halted = c.halted ∧ (c.setDe v).haltBug = c.haltBug ∧ (c.setDe v).stopped = c.stopped ∧
    (c.setDe v).locked = c.locked ∧ (c.setDe v).cycles = c.cycles ∧ (c.setDe v).ie = c.ie ∧
    (c.setDe v).iflag = c.iflag ∧ (c.setDe v).key1Prepare = c.key1Prepare ∧ (c.setDe v).key1Speed = c.key1Speed :=
  ⟨rfl, rfl, rfl, rfl, rfl, rfl, rfl, rfl, rfl, rfl, rfl, rfl, rfl, rfl, rfl, rfl, rfl, rfl, rfl, rfl, rfl⟩

/-- Fields after a write of HL. -/
@[simp] theorem Cpu.setHl_fields (c : Cpu) (v : Word) :
    (c.setHl v).a = c.a ∧ (c.setHl v).f = c.f ∧ (c.setHl v).b = c.b ∧ (c.setHl v).c = c.c ∧ (c.setHl v).d = c.d ∧
    (c.setHl v).e = c.e ∧ (c.setHl v).h = hiByte v ∧ (c.setHl v).l = loByte v ∧ (c.setHl v).sp = c.sp ∧
    (c.setHl v).pc = c.pc ∧ (c.setHl v).ime = c.ime ∧ (c.setHl v).imeLatch = c.imeLatch ∧
    (c.setHl v).halted = c.halted ∧ (c.setHl v).haltBug = c.haltBug ∧ (c.setHl v).stopped = c.stopped ∧
    (c.setHl v).locked = c.locked ∧ (c.setHl v).cycles = c.cycles ∧ (c.setHl v).ie = c.ie ∧
    (c.setHl v).iflag = c.iflag ∧ (c.setHl v).key1Prepare = c.key1Prepare ∧ (c.setHl v).key1Speed = c.key1Speed :=
  ⟨rfl, rfl, rfl, rfl, rfl, rfl, rfl, rfl, rfl, rfl, rfl, rfl, rfl, rfl, rfl, rfl, rfl, rfl, rfl, rfl, rfl⟩

/-- Fields after a write of AF. -/
@[simp] theorem Cpu.setAf_fields (c : Cpu) (v : Word) :
    (c.setAf v).a = hiByte v ∧ (c.setAf v).f = loByte v &&& 0xF0 ∧ (c.setAf v).b = c.b ∧ (c.setAf v).c = c.c ∧
    (c.setAf v).d = c.d ∧ (c.setAf v).e = c.e ∧ (c.setAf v).h = c.h ∧ (c.setAf v).l = c.l ∧
    (c.setAf v).sp = c.sp ∧ (c.setAf v).pc = c.pc ∧ (c.setAf v).ime = c.ime ∧ (c.setAf v).imeLatch = c.imeLatch ∧
    (c.setAf v).halted = c.halted ∧ (c.setAf v).haltBug = c.haltBug ∧ (c.setAf v).stopped = c.stopped ∧
    (c.setAf v).locked = c.locked ∧ (c.setAf v).cycles = c.cycles ∧ (c.setAf v).ie = c.ie ∧
    (c.setAf v).iflag = c.iflag ∧ (c.setAf v).key1Prepare = c.key1Prepare ∧ (c.setAf v).key1Speed = c.key1Speed :=
  ⟨rfl, rfl, rfl, rfl, rfl, rfl, rfl, rfl, rfl, rfl, rfl, rfl, rfl, rfl, rfl, rfl, rfl, rfl, rfl, rfl, rfl⟩

/-- Fields that a write of an 8-bit register keeps. -/
@[simp] theorem Cpu.setR8_fields (c : Cpu) (r : Reg8) (v : Byte) :
    (c.setR8 r v).f = c.f ∧ (c.setR8 r v).sp = c.sp ∧ (c.setR8 r v).pc = c.pc ∧ (c.setR8 r v).ime = c.ime ∧
    (c.setR8 r v).imeLatch = c.imeLatch ∧ (c.setR8 r v).halted = c.halted ∧ (c.setR8 r v).haltBug = c.haltBug ∧
    (c.setR8 r v).stopped = c.stopped ∧ (c.setR8 r v).locked = c.locked ∧ (c.setR8 r v).cycles = c.cycles ∧
    (c.setR8 r v).ie = c.ie ∧ (c.setR8 r v).iflag = c.iflag ∧ (c.setR8 r v).key1Prepare = c.key1Prepare ∧
    (c.setR8 r v).key1Speed = c.key1Speed := by
  cases r <;> simp [Cpu.setR8]

/-- Fields that a result in an 8-bit register keeps, and F. -/
@[simp] theorem Cpu.putR8_fields (c : Cpu) (r : Reg8) (o : Out8) :
    (c.putR8 r o).f = packFlags o.z o.n o.h o.c ∧ (c.putR8 r o).sp = c.sp ∧ (c.putR8 r o).pc = c.pc ∧
    (c.putR8 r o).ime = c.ime ∧ (c.putR8 r o).imeLatch = c.imeLatch ∧ (c.putR8 r o).halted = c.halted ∧
    (c.putR8 r o).haltBug = c.haltBug ∧ (c.putR8 r o).stopped = c.stopped ∧ (c.putR8 r o).locked = c.locked ∧
    (c.putR8 r o).cycles = c.cycles ∧ (c.putR8 r o).ie = c.ie ∧ (c.putR8 r o).iflag = c.iflag ∧
    (c.putR8 r o).key1Prepare = c.key1Prepare ∧ (c.putR8 r o).key1Speed = c.key1Speed := by
  simp [Cpu.putR8]

/-- Fields after an ALU operation. -/
@[simp] theorem Cpu.alu_fields (c : Cpu) (op : AluOp) (v : Byte) :
    (c.alu op v).a = (aluOut op c.a v c.flagC).value ∧
    (c.alu op v).f = packFlags (aluOut op c.a v c.flagC).z (aluOut op c.a v c.flagC).n (aluOut op c.a v c.flagC).h
      (aluOut op c.a v c.flagC).c ∧
    (c.alu op v).b = c.b ∧ (c.alu op v).c = c.c ∧ (c.alu op v).d = c.d ∧ (c.alu op v).e = c.e ∧
    (c.alu op v).h = c.h ∧ (c.alu op v).l = c.l ∧ (c.alu op v).sp = c.sp ∧ (c.alu op v).pc = c.pc ∧
    (c.alu op v).ime = c.ime ∧ (c.alu op v).imeLatch = c.imeLatch ∧ (c.alu op v).halted = c.halted ∧
    (c.alu op v).haltBug = c.haltBug ∧ (c.alu op v).stopped = c.stopped ∧ (c.alu op v).locked = c.locked ∧
    (c.alu op v).cycles = c.cycles ∧ (c.alu op v).ie = c.ie ∧ (c.alu op v).iflag = c.iflag ∧
    (c.alu op v).key1Prepare = c.key1Prepare ∧ (c.alu op v).key1Speed = c.key1Speed :=
  ⟨rfl, rfl, rfl, rfl, rfl, rfl, rfl, rfl, rfl, rfl, rfl, rfl, rfl, rfl, rfl, rfl, rfl, rfl, rfl, rfl, rfl⟩

/-- Fields that a write of a register pair keeps. -/
@[simp] theorem Cpu.setPair_fields (c : Cpu) (p : Pair) (v : Word) :
    (c.setPair p v).a = c.a ∧ (c.setPair p v).f = c.f ∧ (c.setPair p v).pc = c.pc ∧ (c.setPair p v).ime = c.ime ∧
    (c.setPair p v).imeLatch = c.imeLatch ∧ (c.setPair p v).halted = c.halted ∧
    (c.setPair p v).haltBug = c.haltBug ∧ (c.setPair p v).stopped = c.stopped ∧
    (c.setPair p v).locked = c.locked ∧ (c.setPair p v).cycles = c.cycles ∧ (c.setPair p v).ie = c.ie ∧
    (c.setPair p v).iflag = c.iflag ∧ (c.setPair p v).key1Prepare = c.key1Prepare ∧
    (c.setPair p v).key1Speed = c.key1Speed := by
  cases p <;> simp [Cpu.setPair]

/-- Fields that a write of a stack pair keeps. -/
@[simp] theorem Cpu.setStackPair_fields (c : Cpu) (p : StackPair) (v : Word) :
    (c.setStackPair p v).sp = c.sp ∧ (c.setStackPair p v).pc = c.pc ∧ (c.setStackPair p v).ime = c.ime ∧
    (c.setStackPair p v).imeLatch = c.imeLatch ∧ (c.setStackPair p v).halted = c.halted ∧
    (c.setStackPair p v).haltBug = c.haltBug ∧ (c.setStackPair p v).stopped = c.stopped ∧
    (c.setStackPair p v).locked = c.locked ∧ (c.setStackPair p v).cycles = c.cycles ∧
    (c.setStackPair p v).ie = c.ie ∧ (c.setStackPair p v).iflag = c.iflag ∧
    (c.setStackPair p v).key1Prepare = c.key1Prepare ∧ (c.setStackPair p v).key1Speed = c.key1Speed := by
  cases p <;> simp [Cpu.setStackPair]

/-- Fields after the acknowledge of a dispatch. -/
@[simp] theorem Cpu.acknowledge_fields (c : Cpu) (k : Fin 5) :
    (c.acknowledge k).a = c.a ∧ (c.acknowledge k).f = c.f ∧ (c.acknowledge k).b = c.b ∧
    (c.acknowledge k).c = c.c ∧ (c.acknowledge k).d = c.d ∧ (c.acknowledge k).e = c.e ∧
    (c.acknowledge k).h = c.h ∧ (c.acknowledge k).l = c.l ∧ (c.acknowledge k).sp = c.sp ∧
    (c.acknowledge k).pc = c.pc ∧ (c.acknowledge k).ime = false ∧ (c.acknowledge k).imeLatch = false ∧
    (c.acknowledge k).halted = c.halted ∧ (c.acknowledge k).haltBug = false ∧
    (c.acknowledge k).stopped = c.stopped ∧ (c.acknowledge k).locked = c.locked ∧
    (c.acknowledge k).cycles = c.cycles ∧ (c.acknowledge k).ie = c.ie ∧
    (c.acknowledge k).iflag = c.iflag &&& ~~~ ((1 : BitVec 5) <<< k.val) ∧
    (c.acknowledge k).key1Prepare = c.key1Prepare ∧ (c.acknowledge k).key1Speed = c.key1Speed :=
  ⟨rfl, rfl, rfl, rfl, rfl, rfl, rfl, rfl, rfl, rfl, rfl, rfl, rfl, rfl, rfl, rfl, rfl, rfl, rfl, rfl, rfl⟩

/-- Two cores with the same fields are the same. -/
theorem Cpu.eq_of_fields {c d : Cpu}
    (h : c.a = d.a ∧ c.f = d.f ∧ c.b = d.b ∧ c.c = d.c ∧ c.d = d.d ∧ c.e = d.e ∧ c.h = d.h ∧ c.l = d.l ∧
      c.sp = d.sp ∧ c.pc = d.pc ∧ c.ime = d.ime ∧ c.imeLatch = d.imeLatch ∧ c.halted = d.halted ∧
      c.haltBug = d.haltBug ∧ c.stopped = d.stopped ∧ c.locked = d.locked ∧ c.cycles = d.cycles ∧
      c.ie = d.ie ∧ c.iflag = d.iflag ∧ c.key1Prepare = d.key1Prepare ∧ c.key1Speed = d.key1Speed) : c = d := by
  cases c
  cases d
  simpa using h

/-- An 8-bit register reads what was written to it. -/
@[simp] theorem Cpu.r8_setR8 (c : Cpu) (r : Reg8) (v : Byte) : (c.setR8 r v).r8 r = v := by cases r <;> rfl

/-- The other 8-bit registers read as before. -/
theorem Cpu.r8_setR8_ne (c : Cpu) {r q : Reg8} (v : Byte) (h : q ≠ r) : (c.setR8 r v).r8 q = c.r8 q := by
  cases r <;> cases q <;> first | rfl | exact absurd rfl h

/-- The halves of a word make the word. -/
@[simp] theorem wordOf_halves (v : Word) : wordOf (hiByte v) (loByte v) = v := by
  apply BitVec.eq_of_getLsbD_eq
  intro i hi
  have : (wordOf (hiByte v) (loByte v)).getLsbD i = _ := BitVec.getLsbD_append
  rw [this]
  by_cases h : i < 8
  · simp [h, loByte]
  · simp [h, hiByte, show i - 8 < 8 by omega, show 8 + (i - 8) = i by omega]

/-- The high byte of a pair. -/
@[simp] theorem hiByte_wordOf (hi lo : Byte) : hiByte (wordOf hi lo) = hi := by
  apply BitVec.eq_of_getLsbD_eq
  intro i hi'
  have : (wordOf hi lo).getLsbD (8+i) = _ := BitVec.getLsbD_append
  simp [hiByte, hi', this]

/-- The low byte of a pair. -/
@[simp] theorem loByte_wordOf (hi lo : Byte) : loByte (wordOf hi lo) = lo := by
  apply BitVec.eq_of_getLsbD_eq
  intro i hi'
  have : (wordOf hi lo).getLsbD i = _ := BitVec.getLsbD_append
  simp [loByte, hi', this]

/-- A register pair reads what was written to it. -/
@[simp] theorem Cpu.pair_setPair (c : Cpu) (p : Pair) (v : Word) : (c.setPair p v).pair p = v := by
  cases p <;> simp [Cpu.setPair, Cpu.pair, Cpu.bc, Cpu.de, Cpu.hl]

/-! ## The flags -/

/-- The flags that were packed are the flags read, and F[3:0] is 0. -/
theorem packFlags_bits (z n h cy : Bool) :
    (packFlags z n h cy).getLsbD 7 = z ∧ (packFlags z n h cy).getLsbD 6 = n ∧
    (packFlags z n h cy).getLsbD 5 = h ∧ (packFlags z n h cy).getLsbD 4 = cy ∧
    packFlags z n h cy &&& 0x0F = 0 := by
  cases z <;> cases n <;> cases h <;> cases cy <;> decide

/-- The flags after `setFlags`. -/
@[simp] theorem Cpu.flags_setFlags (c : Cpu) (z n h cy : Bool) :
    (c.setFlags z n h cy).flagZ = z ∧ (c.setFlags z n h cy).flagN = n ∧ (c.setFlags z n h cy).flagH = h ∧
    (c.setFlags z n h cy).flagC = cy := by
  simpa [Cpu.flagZ, Cpu.flagN, Cpu.flagH, Cpu.flagC] using
    ⟨(packFlags_bits z n h cy).1, (packFlags_bits z n h cy).2.1, (packFlags_bits z n h cy).2.2.1,
      (packFlags_bits z n h cy).2.2.2.1⟩

/-- F[3:0] is 0 in every F that the machine writes. -/
@[simp] theorem packFlags_low (z n h cy : Bool) : packFlags z n h cy &&& 0x0F#8 = 0#8 :=
  (packFlags_bits z n h cy).2.2.2.2

/-- F[3:0] is 0 after a masked write of F (R43). -/
@[simp] theorem masked_low (v : Byte) : (v &&& 0xF0#8) &&& 0x0F#8 = 0#8 := by
  rw [BitVec.and_assoc]; simp

/-! ## Updates of the whole state -/

/-- Fields after a change of the core. -/
@[simp] theorem State.onCpu_fields (s : State) (f : Cpu → Cpu) :
    (s.onCpu f).cpu = f s.cpu ∧ (s.onCpu f).model = s.model ∧ (s.onCpu f).platform = s.platform :=
  ⟨rfl, rfl, rfl⟩

/-- Fields after a write of PC. -/
@[simp] theorem State.setPc_fields (s : State) (v : Word) :
    (s.setPc v).cpu = { s.cpu with pc := v } ∧ (s.setPc v).model = s.model ∧ (s.setPc v).platform = s.platform :=
  ⟨rfl, rfl, rfl⟩

/-- Fields after a write of SP. -/
@[simp] theorem State.setSp_fields (s : State) (v : Word) :
    (s.setSp v).cpu = { s.cpu with sp := v } ∧ (s.setSp v).model = s.model ∧ (s.setSp v).platform = s.platform :=
  ⟨rfl, rfl, rfl⟩

/-- Fields after `Lock()`. -/
@[simp] theorem State.lock_fields (s : State) :
    (s.lock).cpu = { s.cpu with locked := true } ∧ (s.lock).model = s.model ∧ (s.lock).platform = s.platform :=
  ⟨rfl, rfl, rfl⟩

/-- Fields after the wake from HALT. -/
@[simp] theorem State.wake_fields (s : State) :
    (s.wake).cpu = { s.cpu with halted := false } ∧ (s.wake).model = s.model ∧ (s.wake).platform = s.platform :=
  ⟨rfl, rfl, rfl⟩

/-- Fields after an interrupt request (R522). -/
@[simp] theorem State.requestInterrupt_fields (s : State) (k : Fin 5) :
    (s.requestInterrupt k).cpu = { s.cpu with iflag := s.cpu.iflag ||| (1 : BitVec 5) <<< k.val } ∧
    (s.requestInterrupt k).model = s.model ∧ (s.requestInterrupt k).platform = s.platform :=
  ⟨rfl, rfl, rfl⟩

/-- Fields after a reset (R581, R582). -/
@[simp] theorem State.powerOn_fields (m : Model) (b : Boot) (p : Platform) :
    (State.powerOn m b p).model = m ∧ (State.powerOn m b p).cpu = Cpu.afterReset m b ∧
    (State.powerOn m b p).platform = p :=
  ⟨rfl, rfl, rfl⟩

/-- A block that raises nothing requests nothing. -/
@[simp] theorem Effect.requests_nil (w : List (Word × Byte)) (r : Option Bool) :
    (Effect.mk [] w r).requests = 0 := rfl

/-- The IF bits of an effect are the numbers of the interrupts it raises (R522). -/
theorem Effect.requests_bit (e : Effect) (j : Nat) (hj : j < 5) :
    e.requests.getLsbD j = e.raises.any (fun d => d.number.val == j) := by
  obtain ⟨raises, w, r⟩ := e
  have one : ∀ d : DeviceInterrupt, ((1 : BitVec 5) <<< d.number.val).getLsbD j = (d.number.val == j) := by
    intro d
    rcases j with _ | _ | _ | _ | _ | j <;> first | omega | (cases d <;> rfl)
  induction raises with
  | nil => simp [Effect.requests]
  | cons d ds ih =>
    simp only [Effect.requests, List.foldr_cons, List.any_cons, BitVec.getLsbD_or, one] at ih ⊢
    rw [ih]

/-- No block raises Serial (R541). -/
theorem Effect.requests_serial (e : Effect) : e.requests.getLsbD 3 = false := by
  rw [e.requests_bit 3 (by decide), List.any_eq_false]
  intro d _
  cases d <;> decide

/-- Fields after a block's effect (R102). -/
@[simp] theorem State.applyEffect_fields (s : State) (e : Effect) :
    (s.applyEffect e).cpu = { s.cpu with iflag := s.cpu.iflag ||| e.requests } ∧
    (s.applyEffect e).model = s.model ∧ (s.applyEffect e).platform.mem = s.platform.mem.pokeAll e.writes ∧
    (s.applyEffect e).platform.ramEnabled = e.ramEnable.getD s.platform.ramEnabled ∧
    (s.applyEffect e).platform.script = s.platform.script ∧ (s.applyEffect e).platform.trace = s.platform.trace ∧
    (s.applyEffect e).platform.debugging = s.platform.debugging ∧
    (s.applyEffect e).platform.host = s.platform.host :=
  ⟨rfl, rfl, rfl, rfl, rfl, rfl, rfl, rfl⟩

/-- Fields after an M-cycle is noted (R114). -/
@[simp] theorem State.note_fields (s : State) (m : MCycle) (pause : Bool) :
    (s.note m pause).cpu = s.cpu ∧ (s.note m pause).model = s.model ∧
    (s.note m pause).platform.mem = s.platform.mem ∧
    (s.note m pause).platform.ramEnabled = s.platform.ramEnabled ∧
    (s.note m pause).platform.script = s.platform.script ∧
    (s.note m pause).platform.trace = m :: s.platform.trace ∧
    (s.note m pause).platform.debugging = (s.platform.debugging || pause) ∧
    (s.note m pause).platform.host = s.platform.host :=
  ⟨rfl, rfl, rfl, rfl, rfl, rfl, rfl, rfl⟩

/-- Fields after a store to a cell. -/
@[simp] theorem State.storeCell_fields (s : State) (a : Word) (v : Byte) :
    (s.storeCell a v).cpu = s.cpu ∧ (s.storeCell a v).model = s.model ∧
    (s.storeCell a v).platform.mem = Memory.store s.platform.mem (cellOf a) v ∧
    (s.storeCell a v).platform.ramEnabled = s.platform.ramEnabled ∧
    (s.storeCell a v).platform.script = s.platform.script ∧ (s.storeCell a v).platform.trace = s.platform.trace ∧
    (s.storeCell a v).platform.debugging = s.platform.debugging ∧
    (s.storeCell a v).platform.host = s.platform.host :=
  ⟨rfl, rfl, rfl, rfl, rfl, rfl, rfl, rfl⟩

end Sys2Proof.Machine
end

