-- ==== Sys2Proof/Laws/Memory.lean ====
section
/-! SUPPORT. The laws of the bytes behind the bus: reading after writing, that every memory operation keeps the
canonical form, and which addresses share a cell. -/

namespace Sys2Proof.Machine

/-! ## Reading after erasing, inserting and storing -/

/-- Erasing one cell leaves every other cell. -/
theorem Memory.byteAt_erase_ne (m : Memory) {a b : Nat} (h : b ≠ a) : (m.erase a).byteAt b = m.byteAt b := by
  induction m with
  | nil => rfl
  | cons x m ih =>
    obtain ⟨k, v⟩ := x
    by_cases hk : k = a
    · subst hk
      simp [Memory.erase, Memory.byteAt, Ne.symm h]
    · simp [Memory.erase, Memory.byteAt, hk, ih]

/-- Inserting at one cell leaves every other cell. -/
theorem Memory.byteAt_insert_ne (m : Memory) {a b : Nat} (v : Byte) (h : b ≠ a) :
    (m.insert a v).byteAt b = m.byteAt b := by
  induction m with
  | nil => simp [Memory.insert, Memory.byteAt, Ne.symm h]
  | cons x m ih =>
    obtain ⟨k, w⟩ := x
    simp only [Memory.insert]
    split
    · simp [Memory.byteAt, Ne.symm h]
    · split
      · rename_i hk
        subst hk
        simp [Memory.byteAt, Ne.symm h]
      · simp [Memory.byteAt, ih]

/-- The inserted byte is read back. -/
theorem Memory.byteAt_insert (m : Memory) (a : Nat) (v : Byte) : (m.insert a v).byteAt a = v := by
  induction m with
  | nil => simp [Memory.insert, Memory.byteAt]
  | cons x m ih =>
    obtain ⟨k, w⟩ := x
    simp only [Memory.insert]
    split
    · simp [Memory.byteAt]
    · split
      · simp [Memory.byteAt]
      · rename_i hk
        simp [Memory.byteAt, hk, ih]

/-- A cell below every listed one reads as unlisted. -/
theorem Memory.byteAt_of_lt (m : Memory) (a : Nat) (h : ∀ x ∈ m, a < x.1) : m.byteAt a = Memory.unlisted a := by
  induction m with
  | nil => rfl
  | cons x m ih =>
    obtain ⟨k, v⟩ := x
    have hk : k ≠ a := by have := h (k, v) (by simp); simp at this; omega
    simp [Memory.byteAt, hk, ih fun y hy => h y (List.mem_cons_of_mem _ hy)]

/-- In a rising list an erased cell reads as unlisted. -/
theorem Memory.byteAt_erase (m : Memory) (a : Nat) (h : m.Pairwise (fun x y => x.1 < y.1)) :
    (m.erase a).byteAt a = Memory.unlisted a := by
  induction m with
  | nil => rfl
  | cons x m ih =>
    obtain ⟨k, v⟩ := x
    rw [List.pairwise_cons] at h
    by_cases hk : k = a
    · subst hk
      simpa [Memory.erase] using Memory.byteAt_of_lt m k h.1
    · simp [Memory.erase, Memory.byteAt, hk, ih h.2]

/-- A store leaves every other cell. -/
theorem Memory.byteAt_store_ne (m : Memory) {a b : Nat} (v : Byte) (h : b ≠ a) :
    (m.store a v).byteAt b = m.byteAt b := by
  unfold Memory.store
  split
  · exact m.byteAt_erase_ne h
  · exact m.byteAt_insert_ne v h

/-- A stored byte is read back. -/
theorem Memory.byteAt_store (m : Memory) (a : Nat) (v : Byte) (hm : m.wf) : (m.store a v).byteAt a = v := by
  unfold Memory.store
  split
  · rename_i hv
    rw [m.byteAt_erase a hm.1, hv]
  · exact m.byteAt_insert a v

/-! ## The canonical form is kept -/

/-- What an erased list holds, the list held. -/
theorem Memory.mem_of_mem_erase (m : Memory) (a : Nat) {x : Host.Cell} (h : x ∈ m.erase a) : x ∈ m := by
  induction m with
  | nil => exact h
  | cons y m ih =>
    obtain ⟨k, v⟩ := y
    simp only [Memory.erase] at h
    split at h
    · exact List.mem_cons_of_mem _ h
    · rcases List.mem_cons.1 h with h | h
      · simp [h]
      · exact List.mem_cons_of_mem _ (ih h)

/-- What an inserted list holds is the new cell or was there. -/
theorem Memory.mem_of_mem_insert (m : Memory) (a : Nat) (v : Byte) {x : Host.Cell} (h : x ∈ m.insert a v) :
    x = (a, v) ∨ x ∈ m := by
  induction m with
  | nil => simpa [Memory.insert] using h
  | cons y m ih =>
    obtain ⟨k, w⟩ := y
    simp only [Memory.insert] at h
    split at h
    · simpa using h
    · split at h
      · rcases List.mem_cons.1 h with h | h
        · exact .inl h
        · exact .inr (List.mem_cons_of_mem _ h)
      · rcases List.mem_cons.1 h with h | h
        · exact .inr (by simp [h])
        · exact (ih h).imp id (List.mem_cons_of_mem _)

/-- Erasing keeps the canonical form. -/
theorem Memory.wf_erase (m : Memory) (a : Nat) (hm : m.wf) : (m.erase a).wf := by
  refine ⟨?_, fun x hx => hm.2 x (m.mem_of_mem_erase a hx)⟩
  have h := hm.1
  clear hm
  induction m with
  | nil => exact h
  | cons y m ih =>
    obtain ⟨k, v⟩ := y
    rw [List.pairwise_cons] at h
    simp only [Memory.erase]
    split
    · exact h.2
    · exact List.pairwise_cons.2 ⟨fun x hx => h.1 x (Memory.mem_of_mem_erase m a hx), ih h.2⟩

/-- Inserting a byte that differs from the unlisted one keeps the canonical form. -/
theorem Memory.wf_insert (m : Memory) (a : Nat) (v : Byte) (hm : m.wf) (hc : Memory.isCell a = true)
    (hv : v ≠ Memory.unlisted a) : (m.insert a v).wf := by
  refine ⟨?_, fun x hx => ?_⟩
  · have h := hm.1
    clear hm
    induction m with
    | nil => simp [Memory.insert]
    | cons y m ih =>
      obtain ⟨k, w⟩ := y
      have h' := List.pairwise_cons.1 h
      simp only [Memory.insert]
      split
      · rename_i hlt
        refine List.pairwise_cons.2 ⟨fun x hx => ?_, h⟩
        rcases List.mem_cons.1 hx with hx | hx
        · simp [hx, hlt]
        · exact Nat.lt_trans hlt (h'.1 x hx)
      · split
        · rename_i hk
          subst hk
          exact List.pairwise_cons.2 ⟨h'.1, h'.2⟩
        · rename_i hlt hk
          refine List.pairwise_cons.2 ⟨fun x hx => ?_, ih h'.2⟩
          rcases Memory.mem_of_mem_insert m a v hx with hx | hx
          · simp [hx]
            omega
          · exact h'.1 x hx
  · rcases m.mem_of_mem_insert a v hx with hx | hx
    · subst hx
      exact ⟨hc, hv⟩
    · exact hm.2 x hx

/-- A store keeps the canonical form. -/
theorem Memory.wf_store (m : Memory) (a : Nat) (v : Byte) (hm : m.wf) (hc : Memory.isCell a = true) :
    (m.store a v).wf := by
  unfold Memory.store
  split
  · exact m.wf_erase a hm
  · rename_i hv
    exact m.wf_insert a v hm hc hv

/-- The addresses of a region (R103, R106), as numbers. -/
def Region.range : Region → Nat → Prop
  | .romBank0, n => n < 0x4000
  | .romBankN, n => 0x4000 ≤ n ∧ n < 0x8000
  | .videoRam, n => 0x8000 ≤ n ∧ n < 0xA000
  | .externalRam, n => 0xA000 ≤ n ∧ n < 0xC000
  | .workRam, n => 0xC000 ≤ n ∧ n < 0xE000
  | .echoRam, n => 0xE000 ≤ n ∧ n < 0xFE00
  | .oam, n => 0xFE00 ≤ n ∧ n < 0xFEA0
  | .unusable, n => 0xFEA0 ≤ n ∧ n < 0xFF00
  | .registerFile, n => 0xFF00 ≤ n ∧ n < 0xFF80 ∧ n ≠ 0xFF0F ∧ n ≠ 0xFF4D
  | .interruptFlag, n => n = 0xFF0F
  | .speedSwitch, n => n = 0xFF4D
  | .highRam, n => 0xFF80 ≤ n ∧ n < 0xFFFF
  | .interruptEnable, n => n = 0xFFFF

/-- An address lies in its region. -/
theorem regionOf_range (a : Word) : (regionOf a).range a.toNat := by
  have hlt : a.toNat < 0x10000 := a.isLt
  unfold regionOf
  simp only [BitVec.lt_def, BitVec.toNat_eq, BitVec.reduceToNat]
  generalize a.toNat = n at hlt
  by_cases h0 : n < 0x4000
  · rw [if_pos h0]; simp only [Region.range]; omega
  rw [if_neg h0]
  by_cases h1 : n < 0x8000
  · rw [if_pos h1]; simp only [Region.range]; omega
  rw [if_neg h1]
  by_cases h2 : n < 0xA000
  · rw [if_pos h2]; simp only [Region.range]; omega
  rw [if_neg h2]
  by_cases h3 : n < 0xC000
  · rw [if_pos h3]; simp only [Region.range]; omega
  rw [if_neg h3]
  by_cases h4 : n < 0xE000
  · rw [if_pos h4]; simp only [Region.range]; omega
  rw [if_neg h4]
  by_cases h5 : n < 0xFE00
  · rw [if_pos h5]; simp only [Region.range]; omega
  rw [if_neg h5]
  by_cases h6 : n < 0xFEA0
  · rw [if_pos h6]; simp only [Region.range]; omega
  rw [if_neg h6]
  by_cases h7 : n < 0xFF00
  · rw [if_pos h7]; simp only [Region.range]; omega
  rw [if_neg h7]
  by_cases h8 : n = 0xFF0F
  · rw [if_pos h8]; simp only [Region.range]; omega
  rw [if_neg h8]
  by_cases h9 : n = 0xFF4D
  · rw [if_pos h9]; simp only [Region.range]; omega
  rw [if_neg h9]
  by_cases h10 : n < 0xFF80
  · rw [if_pos h10]; simp only [Region.range]; omega
  rw [if_neg h10]
  by_cases h11 : n < 0xFFFF
  · rw [if_pos h11]; simp only [Region.range]; omega
  rw [if_neg h11]
  simp only [Region.range]; omega

/-- Which addresses are echo RAM, and which bytes the core owns (R103, R106). -/
theorem regionOf_echo_owned (a : Word) :
    (regionOf a = .echoRam ↔ 0xE000 ≤ a.toNat ∧ a.toNat < 0xFE00) ∧
    ((regionOf a).coreOwned = true ↔ a.toNat = 0xFF0F ∨ a.toNat = 0xFF4D ∨ a.toNat = 0xFFFF) := by
  have h := regionOf_range a
  generalize regionOf a = r at h
  cases r <;> simp only [Region.range] at h <;> simp [Region.coreOwned] <;> omega

/-- An address the core does not own has a cell. -/
theorem isCell_cellOf (a : Word) (h : (regionOf a).coreOwned = false) : Memory.isCell (cellOf a) = true := by
  have hlt : a.toNat < 0x10000 := a.isLt
  obtain ⟨he, hc⟩ := regionOf_echo_owned a
  have hn : ¬ (a.toNat = 0xFF0F ∨ a.toNat = 0xFF4D ∨ a.toNat = 0xFFFF) := by
    rw [← hc, h]; simp
  unfold cellOf Memory.isCell
  simp only [he]
  split <;> simp <;> omega

/-- A poke keeps the canonical form. -/
theorem Memory.wf_poke (m : Memory) (w : Word × Byte) (hm : m.wf) : (m.poke w).wf := by
  unfold Memory.poke
  split
  · exact hm
  · rename_i h
    exact m.wf_store _ _ hm (isCell_cellOf w.1 (by simpa using h))

/-- Pokes keep the canonical form. -/
theorem Memory.wf_pokeAll (m : Memory) (ws : List (Word × Byte)) (hm : m.wf) : (m.pokeAll ws).wf := by
  induction ws generalizing m with
  | nil => exact hm
  | cons w ws ih => exact ih _ (m.wf_poke w hm)

/-- Pokes at other cells leave a cell. -/
theorem Memory.byteAt_pokeAll_ne (m : Memory) (ws : List (Word × Byte)) (a : Nat)
    (h : ∀ w ∈ ws, cellOf w.1 ≠ a) : (m.pokeAll ws).byteAt a = m.byteAt a := by
  induction ws generalizing m with
  | nil => rfl
  | cons w ws ih =>
    have h1 : (m.poke w).byteAt a = m.byteAt a := by
      unfold Memory.poke
      split
      · rfl
      · exact m.byteAt_store_ne _ (Ne.symm (h w (by simp)))
    exact (ih (m.poke w) fun x hx => h x (by simp [hx])).trans h1

/-- The memory of the reset state is in canonical form: it lists nothing. -/
theorem reset_mem_wf : State.reset.platform.mem.wf := by
  simp [State.reset, State.powerOn, Platform.powerOn, Memory.wf]

end Sys2Proof.Machine
end

