-- ==== Sys2Proof/Laws/Ops.lean ====
section
/-! SUPPORT. What each shared operation over the bus, the stack and the clock can do: the core fields it keeps, the
cycles it takes, the M-cycles it notes, and that it keeps the canonical form of memory and reads of other bytes.
Later proofs cite these and unfold no operation. -/

namespace Sys2Proof.Machine

/-! ## What each operation keeps, takes and notes -/

/-- A write at an address, of itself: no cycle and no general register. -/
@[simp] theorem State.put_keeps (s : State) (a : Word) (v : Byte) :
    (s.put a v).cpu.a = s.cpu.a ∧ (s.put a v).cpu.f = s.cpu.f ∧ (s.put a v).cpu.b = s.cpu.b ∧
    (s.put a v).cpu.c = s.cpu.c ∧ (s.put a v).cpu.d = s.cpu.d ∧ (s.put a v).cpu.e = s.cpu.e ∧
    (s.put a v).cpu.h = s.cpu.h ∧ (s.put a v).cpu.l = s.cpu.l ∧ (s.put a v).cpu.sp = s.cpu.sp ∧
    (s.put a v).cpu.pc = s.cpu.pc ∧ (s.put a v).cpu.ime = s.cpu.ime ∧ (s.put a v).cpu.imeLatch = s.cpu.imeLatch ∧
    (s.put a v).cpu.halted = s.cpu.halted ∧ (s.put a v).cpu.haltBug = s.cpu.haltBug ∧
    (s.put a v).cpu.stopped = s.cpu.stopped ∧ (s.put a v).cpu.locked = s.cpu.locked ∧
    (s.put a v).cpu.key1Speed = s.cpu.key1Speed ∧ (s.put a v).cpu.cycles = s.cpu.cycles ∧
    (s.put a v).platform.trace = s.platform.trace ∧ (s.put a v).model = s.model ∧
    (s.put a v).platform.host = s.platform.host ∧ (s.put a v).platform.script = s.platform.script := by
  unfold State.put
  cases regionOf a <;> cases hm : s.model <;> cases s.platform.ramEnabled <;> simp [hm]

/-- The platform's side effect of an access. -/
@[simp] theorem State.accessEffect_keeps (s : State) (a : Word) (e : Effect) :
    (s.accessEffect a e).cpu.a = s.cpu.a ∧ (s.accessEffect a e).cpu.f = s.cpu.f ∧
    (s.accessEffect a e).cpu.b = s.cpu.b ∧ (s.accessEffect a e).cpu.c = s.cpu.c ∧
    (s.accessEffect a e).cpu.d = s.cpu.d ∧ (s.accessEffect a e).cpu.e = s.cpu.e ∧
    (s.accessEffect a e).cpu.h = s.cpu.h ∧ (s.accessEffect a e).cpu.l = s.cpu.l ∧
    (s.accessEffect a e).cpu.sp = s.cpu.sp ∧ (s.accessEffect a e).cpu.pc = s.cpu.pc ∧
    (s.accessEffect a e).cpu.ime = s.cpu.ime ∧ (s.accessEffect a e).cpu.imeLatch = s.cpu.imeLatch ∧
    (s.accessEffect a e).cpu.halted = s.cpu.halted ∧ (s.accessEffect a e).cpu.haltBug = s.cpu.haltBug ∧
    (s.accessEffect a e).cpu.stopped = s.cpu.stopped ∧ (s.accessEffect a e).cpu.locked = s.cpu.locked ∧
    (s.accessEffect a e).cpu.key1Speed = s.cpu.key1Speed ∧ (s.accessEffect a e).cpu.cycles = s.cpu.cycles ∧
    (s.accessEffect a e).platform.trace = s.platform.trace ∧ (s.accessEffect a e).model = s.model ∧
    (s.accessEffect a e).platform.host = s.platform.host ∧
    (s.accessEffect a e).platform.script = s.platform.script := by
  unfold State.accessEffect
  split <;> simp

/-- `Tick(4)`: 4 T-cycles. -/
@[simp] theorem State.tick_keeps (s : State) :
    (s.tick).cpu.a = s.cpu.a ∧ (s.tick).cpu.f = s.cpu.f ∧ (s.tick).cpu.b = s.cpu.b ∧ (s.tick).cpu.c = s.cpu.c ∧
    (s.tick).cpu.d = s.cpu.d ∧ (s.tick).cpu.e = s.cpu.e ∧ (s.tick).cpu.h = s.cpu.h ∧ (s.tick).cpu.l = s.cpu.l ∧
    (s.tick).cpu.sp = s.cpu.sp ∧ (s.tick).cpu.pc = s.cpu.pc ∧ (s.tick).cpu.ime = s.cpu.ime ∧
    (s.tick).cpu.imeLatch = s.cpu.imeLatch ∧ (s.tick).cpu.halted = s.cpu.halted ∧
    (s.tick).cpu.haltBug = s.cpu.haltBug ∧ (s.tick).cpu.stopped = s.cpu.stopped ∧
    (s.tick).cpu.locked = s.cpu.locked ∧ (s.tick).cpu.key1Speed = s.cpu.key1Speed ∧
    (s.tick).cpu.cycles = s.cpu.cycles + 4 ∧ (s.tick).platform.trace = s.platform.trace ∧
    (s.tick).model = s.model ∧ (s.tick).platform.host = s.platform.host ∧
    (s.tick).platform.script = s.platform.script.tail := by
  simp [State.tick, Config.tCyclesPerMCycle]

/-- `Idle()`: one M-cycle, noted as idle. -/
@[simp] theorem State.idle_keeps (s : State) :
    (s.idle).cpu.a = s.cpu.a ∧ (s.idle).cpu.f = s.cpu.f ∧ (s.idle).cpu.b = s.cpu.b ∧ (s.idle).cpu.c = s.cpu.c ∧
    (s.idle).cpu.d = s.cpu.d ∧ (s.idle).cpu.e = s.cpu.e ∧ (s.idle).cpu.h = s.cpu.h ∧ (s.idle).cpu.l = s.cpu.l ∧
    (s.idle).cpu.sp = s.cpu.sp ∧ (s.idle).cpu.pc = s.cpu.pc ∧ (s.idle).cpu.ime = s.cpu.ime ∧
    (s.idle).cpu.imeLatch = s.cpu.imeLatch ∧ (s.idle).cpu.halted = s.cpu.halted ∧
    (s.idle).cpu.haltBug = s.cpu.haltBug ∧ (s.idle).cpu.stopped = s.cpu.stopped ∧
    (s.idle).cpu.locked = s.cpu.locked ∧ (s.idle).cpu.key1Speed = s.cpu.key1Speed ∧
    (s.idle).cpu.cycles = s.cpu.cycles + 4 ∧ (s.idle).platform.trace = .idle :: s.platform.trace ∧
    (s.idle).model = s.model ∧ (s.idle).platform.host = s.platform.host ∧
    (s.idle).platform.script = s.platform.script.tail := by
  simp [State.idle]

/-- `MemRead`: one M-cycle, noted as a read of the byte it returns. -/
@[simp] theorem State.afterRead_keeps (s : State) (a : Word) :
    (s.afterRead a).cpu.a = s.cpu.a ∧ (s.afterRead a).cpu.f = s.cpu.f ∧ (s.afterRead a).cpu.b = s.cpu.b ∧
    (s.afterRead a).cpu.c = s.cpu.c ∧ (s.afterRead a).cpu.d = s.cpu.d ∧ (s.afterRead a).cpu.e = s.cpu.e ∧
    (s.afterRead a).cpu.h = s.cpu.h ∧ (s.afterRead a).cpu.l = s.cpu.l ∧ (s.afterRead a).cpu.sp = s.cpu.sp ∧
    (s.afterRead a).cpu.pc = s.cpu.pc ∧ (s.afterRead a).cpu.ime = s.cpu.ime ∧
    (s.afterRead a).cpu.imeLatch = s.cpu.imeLatch ∧ (s.afterRead a).cpu.halted = s.cpu.halted ∧
    (s.afterRead a).cpu.haltBug = s.cpu.haltBug ∧ (s.afterRead a).cpu.stopped = s.cpu.stopped ∧
    (s.afterRead a).cpu.locked = s.cpu.locked ∧ (s.afterRead a).cpu.key1Speed = s.cpu.key1Speed ∧
    (s.afterRead a).cpu.cycles = s.cpu.cycles + 4 ∧
    (s.afterRead a).platform.trace = .access a (s.read a) .read :: s.platform.trace ∧
    (s.afterRead a).model = s.model ∧ (s.afterRead a).platform.host = s.platform.host ∧
    (s.afterRead a).platform.script = s.platform.script.tail := by
  simp [State.afterRead]

/-- `MemWrite`: one M-cycle, noted as a write. -/
@[simp] theorem State.write_keeps (s : State) (a : Word) (v : Byte) :
    (s.write a v).cpu.a = s.cpu.a ∧ (s.write a v).cpu.f = s.cpu.f ∧ (s.write a v).cpu.b = s.cpu.b ∧
    (s.write a v).cpu.c = s.cpu.c ∧ (s.write a v).cpu.d = s.cpu.d ∧ (s.write a v).cpu.e = s.cpu.e ∧
    (s.write a v).cpu.h = s.cpu.h ∧ (s.write a v).cpu.l = s.cpu.l ∧ (s.write a v).cpu.sp = s.cpu.sp ∧
    (s.write a v).cpu.pc = s.cpu.pc ∧ (s.write a v).cpu.ime = s.cpu.ime ∧
    (s.write a v).cpu.imeLatch = s.cpu.imeLatch ∧ (s.write a v).cpu.halted = s.cpu.halted ∧
    (s.write a v).cpu.haltBug = s.cpu.haltBug ∧ (s.write a v).cpu.stopped = s.cpu.stopped ∧
    (s.write a v).cpu.locked = s.cpu.locked ∧ (s.write a v).cpu.key1Speed = s.cpu.key1Speed ∧
    (s.write a v).cpu.cycles = s.cpu.cycles + 4 ∧
    (s.write a v).platform.trace = .access a v .write :: s.platform.trace ∧ (s.write a v).model = s.model ∧
    (s.write a v).platform.host = s.platform.host ∧ (s.write a v).platform.script = s.platform.script.tail := by
  simp [State.write]

/-- `Fetch8()`: one read at PC, which moves on by one. -/
@[simp] theorem State.fetch8_keeps (s : State) :
    (s.fetch8.2).cpu.a = s.cpu.a ∧ (s.fetch8.2).cpu.f = s.cpu.f ∧ (s.fetch8.2).cpu.b = s.cpu.b ∧
    (s.fetch8.2).cpu.c = s.cpu.c ∧ (s.fetch8.2).cpu.d = s.cpu.d ∧ (s.fetch8.2).cpu.e = s.cpu.e ∧
    (s.fetch8.2).cpu.h = s.cpu.h ∧ (s.fetch8.2).cpu.l = s.cpu.l ∧ (s.fetch8.2).cpu.sp = s.cpu.sp ∧
    (s.fetch8.2).cpu.pc = s.cpu.pc + 1 ∧ (s.fetch8.2).cpu.ime = s.cpu.ime ∧
    (s.fetch8.2).cpu.imeLatch = s.cpu.imeLatch ∧ (s.fetch8.2).cpu.halted = s.cpu.halted ∧
    (s.fetch8.2).cpu.haltBug = s.cpu.haltBug ∧ (s.fetch8.2).cpu.stopped = s.cpu.stopped ∧
    (s.fetch8.2).cpu.locked = s.cpu.locked ∧ (s.fetch8.2).cpu.key1Speed = s.cpu.key1Speed ∧
    (s.fetch8.2).cpu.cycles = s.cpu.cycles + 4 ∧
    (s.fetch8.2).platform.trace = .access s.cpu.pc s.fetch8.1 .read :: s.platform.trace ∧
    (s.fetch8.2).model = s.model ∧ (s.fetch8.2).platform.host = s.platform.host ∧
    (s.fetch8.2).platform.script = s.platform.script.tail := by
  simp [State.fetch8]

/-- Half of a push. -/
@[simp] theorem State.push8_keeps (s : State) (v : Byte) :
    (s.push8 v).cpu.a = s.cpu.a ∧ (s.push8 v).cpu.f = s.cpu.f ∧ (s.push8 v).cpu.b = s.cpu.b ∧
    (s.push8 v).cpu.c = s.cpu.c ∧ (s.push8 v).cpu.d = s.cpu.d ∧ (s.push8 v).cpu.e = s.cpu.e ∧
    (s.push8 v).cpu.h = s.cpu.h ∧ (s.push8 v).cpu.l = s.cpu.l ∧ (s.push8 v).cpu.sp = s.cpu.sp - 1 ∧
    (s.push8 v).cpu.pc = s.cpu.pc ∧ (s.push8 v).cpu.ime = s.cpu.ime ∧ (s.push8 v).cpu.imeLatch = s.cpu.imeLatch ∧
    (s.push8 v).cpu.halted = s.cpu.halted ∧ (s.push8 v).cpu.haltBug = s.cpu.haltBug ∧
    (s.push8 v).cpu.stopped = s.cpu.stopped ∧ (s.push8 v).cpu.locked = s.cpu.locked ∧
    (s.push8 v).cpu.key1Speed = s.cpu.key1Speed ∧ (s.push8 v).cpu.cycles = s.cpu.cycles + 4 ∧
    (s.push8 v).platform.trace = .access (s.cpu.sp - 1) v .write :: s.platform.trace ∧
    (s.push8 v).model = s.model ∧ (s.push8 v).platform.host = s.platform.host ∧
    (s.push8 v).platform.script = s.platform.script.tail := by
  simp [State.push8]

/-- A push: two writes, high byte first. -/
@[simp] theorem State.push16_keeps (s : State) (v : Word) :
    (s.push16 v).cpu.a = s.cpu.a ∧ (s.push16 v).cpu.f = s.cpu.f ∧ (s.push16 v).cpu.b = s.cpu.b ∧
    (s.push16 v).cpu.c = s.cpu.c ∧ (s.push16 v).cpu.d = s.cpu.d ∧ (s.push16 v).cpu.e = s.cpu.e ∧
    (s.push16 v).cpu.h = s.cpu.h ∧ (s.push16 v).cpu.l = s.cpu.l ∧ (s.push16 v).cpu.sp = s.cpu.sp - 2 ∧
    (s.push16 v).cpu.pc = s.cpu.pc ∧ (s.push16 v).cpu.ime = s.cpu.ime ∧
    (s.push16 v).cpu.imeLatch = s.cpu.imeLatch ∧ (s.push16 v).cpu.halted = s.cpu.halted ∧
    (s.push16 v).cpu.haltBug = s.cpu.haltBug ∧ (s.push16 v).cpu.stopped = s.cpu.stopped ∧
    (s.push16 v).cpu.locked = s.cpu.locked ∧ (s.push16 v).cpu.key1Speed = s.cpu.key1Speed ∧
    (s.push16 v).cpu.cycles = s.cpu.cycles + 8 ∧
    (s.push16 v).platform.trace = .access (s.cpu.sp - 2) (loByte v) .write :: .access (s.cpu.sp - 1) (hiByte v) .write :: s.platform.trace ∧
    (s.push16 v).model = s.model ∧ (s.push16 v).platform.host = s.platform.host ∧
    (s.push16 v).platform.script = s.platform.script.tail.tail := by
  have h : s.cpu.sp - 1#16 - 1#16 = s.cpu.sp - 2#16 := by rw [BitVec.sub_sub]; rfl
  simp [State.push16, h]

/-- Half of a pop. -/
@[simp] theorem State.pop8_keeps (s : State) :
    (s.pop8.2).cpu.a = s.cpu.a ∧ (s.pop8.2).cpu.f = s.cpu.f ∧ (s.pop8.2).cpu.b = s.cpu.b ∧
    (s.pop8.2).cpu.c = s.cpu.c ∧ (s.pop8.2).cpu.d = s.cpu.d ∧ (s.pop8.2).cpu.e = s.cpu.e ∧
    (s.pop8.2).cpu.h = s.cpu.h ∧ (s.pop8.2).cpu.l = s.cpu.l ∧ (s.pop8.2).cpu.sp = s.cpu.sp + 1 ∧
    (s.pop8.2).cpu.pc = s.cpu.pc ∧ (s.pop8.2).cpu.ime = s.cpu.ime ∧ (s.pop8.2).cpu.imeLatch = s.cpu.imeLatch ∧
    (s.pop8.2).cpu.halted = s.cpu.halted ∧ (s.pop8.2).cpu.haltBug = s.cpu.haltBug ∧
    (s.pop8.2).cpu.stopped = s.cpu.stopped ∧ (s.pop8.2).cpu.locked = s.cpu.locked ∧
    (s.pop8.2).cpu.key1Speed = s.cpu.key1Speed ∧ (s.pop8.2).cpu.cycles = s.cpu.cycles + 4 ∧
    (s.pop8.2).platform.trace = .access s.cpu.sp s.pop8.1 .read :: s.platform.trace ∧ (s.pop8.2).model = s.model ∧
    (s.pop8.2).platform.host = s.platform.host ∧ (s.pop8.2).platform.script = s.platform.script.tail := by
  simp [State.pop8]

/-- A pop: two reads, low byte first. -/
@[simp] theorem State.pop16_keeps (s : State) :
    (s.pop16.2).cpu.a = s.cpu.a ∧ (s.pop16.2).cpu.f = s.cpu.f ∧ (s.pop16.2).cpu.b = s.cpu.b ∧
    (s.pop16.2).cpu.c = s.cpu.c ∧ (s.pop16.2).cpu.d = s.cpu.d ∧ (s.pop16.2).cpu.e = s.cpu.e ∧
    (s.pop16.2).cpu.h = s.cpu.h ∧ (s.pop16.2).cpu.l = s.cpu.l ∧ (s.pop16.2).cpu.sp = s.cpu.sp + 2 ∧
    (s.pop16.2).cpu.pc = s.cpu.pc ∧ (s.pop16.2).cpu.ime = s.cpu.ime ∧ (s.pop16.2).cpu.imeLatch = s.cpu.imeLatch ∧
    (s.pop16.2).cpu.halted = s.cpu.halted ∧ (s.pop16.2).cpu.haltBug = s.cpu.haltBug ∧
    (s.pop16.2).cpu.stopped = s.cpu.stopped ∧ (s.pop16.2).cpu.locked = s.cpu.locked ∧
    (s.pop16.2).cpu.key1Speed = s.cpu.key1Speed ∧ (s.pop16.2).cpu.cycles = s.cpu.cycles + 8 ∧
    (s.pop16.2).platform.trace = .access (s.cpu.sp + 1) (hiByte s.pop16.1) .read :: .access s.cpu.sp (loByte s.pop16.1) .read ::
      s.platform.trace ∧
    (s.pop16.2).model = s.model ∧ (s.pop16.2).platform.host = s.platform.host ∧
    (s.pop16.2).platform.script = s.platform.script.tail.tail := by
  have h : s.cpu.sp + 1#16 + 1#16 = s.cpu.sp + 2#16 := by rw [BitVec.add_assoc]; rfl
  simp [State.pop16, h]

/-! ## Memory stays in canonical form -/

/-- A write at an address keeps the canonical form. -/
theorem State.put_wf (s : State) (a : Word) (v : Byte) (h : s.platform.mem.wf) : (s.put a v).platform.mem.wf := by
  have hc := isCell_cellOf a
  unfold State.put
  revert hc
  cases regionOf a <;> intro hc <;> cases s.model <;> cases s.platform.ramEnabled <;>
    first
      | exact h
      | exact Memory.wf_store _ _ _ h (hc rfl)

/-- A block's effect keeps the canonical form. -/
theorem State.applyEffect_wf (s : State) (e : Effect) (h : s.platform.mem.wf) : (s.applyEffect e).platform.mem.wf := by
  simpa using Memory.wf_pokeAll _ _ h

/-- The side effect of an access keeps the canonical form. -/
theorem State.accessEffect_wf (s : State) (a : Word) (e : Effect) (h : s.platform.mem.wf) :
    (s.accessEffect a e).platform.mem.wf := by
  unfold State.accessEffect
  split
  · exact h
  · exact s.applyEffect_wf e h

/-- `Tick` keeps the canonical form. -/
theorem State.tick_wf (s : State) (h : s.platform.mem.wf) : s.tick.platform.mem.wf :=
  State.applyEffect_wf _ _ h

/-- `Idle` keeps the canonical form. -/
theorem State.idle_wf (s : State) (h : s.platform.mem.wf) : s.idle.platform.mem.wf := s.tick_wf h

/-- A read keeps the canonical form. -/
theorem State.afterRead_wf (s : State) (a : Word) (h : s.platform.mem.wf) : (s.afterRead a).platform.mem.wf :=
  State.accessEffect_wf _ _ _ (s.tick_wf h)

/-- A bus write keeps the canonical form. -/
theorem State.write_wf (s : State) (a : Word) (v : Byte) (h : s.platform.mem.wf) :
    (s.write a v).platform.mem.wf :=
  State.accessEffect_wf _ _ _ (State.put_wf _ _ _ (s.tick_wf h))

/-- A byte fetch keeps the canonical form. -/
theorem State.fetch8_wf (s : State) (h : s.platform.mem.wf) : s.fetch8.2.platform.mem.wf := s.afterRead_wf _ h

/-- A push keeps the canonical form. -/
theorem State.push16_wf (s : State) (v : Word) (h : s.platform.mem.wf) : (s.push16 v).platform.mem.wf :=
  State.write_wf _ _ _ (State.write_wf _ _ _ h)

/-- A pop keeps the canonical form. -/
theorem State.pop16_wf (s : State) (h : s.platform.mem.wf) : s.pop16.2.platform.mem.wf :=
  State.afterRead_wf _ _ (s.afterRead_wf _ h)

/-! ## The bytes an operation leaves -/

/-- An address from its number. -/
theorem word_of_toNat {a : Word} {n : Nat} (h : a.toNat = n) : a = BitVec.ofNat 16 n := by
  rw [← h, BitVec.ofNat_toNat, BitVec.setWidth_eq]

/-- What an address reads as depends only on these parts of the state. -/
theorem State.peek_congr (s t : State) (a : Word) (hm : t.model = s.model)
    (hc : t.cpu.ie = s.cpu.ie ∧ t.cpu.key1Speed = s.cpu.key1Speed ∧ t.cpu.key1Prepare = s.cpu.key1Prepare)
    (hi : a = 0xFF0F → t.cpu.iflag = s.cpu.iflag) (hr : regionOf a = .externalRam →
      t.platform.ramEnabled = s.platform.ramEnabled)
    (hb : t.platform.mem.byteAt (cellOf a) = s.platform.mem.byteAt (cellOf a)) : t.peek a = s.peek a := by
  have hrange := regionOf_range a
  cases h : regionOf a <;> simp only [h, Region.range] at hrange <;>
    simp only [State.peek, h, State.readIf, State.key1, hm, hc, hb]
  · rw [hr h]
  · rw [hi (word_of_toNat hrange)]

/-- A block's effect leaves an address whose cell it does not write, whose latch it does not move, and that is not
an IF it requests in. -/
theorem State.peek_applyEffect (s : State) (e : Effect) (a : Word) (hw : ∀ w ∈ e.writes, cellOf w.1 ≠ cellOf a)
    (hr : regionOf a = .externalRam → e.ramEnable = none) (hi : a = 0xFF0F → e.requests = 0) :
    (s.applyEffect e).peek a = s.peek a := by
  refine State.peek_congr s _ a rfl ⟨rfl, rfl, rfl⟩ (fun h => ?_) (fun h => ?_) ?_
  · simp [hi h]
  · simp [hr h]
  · simpa using Memory.byteAt_pokeAll_ne _ _ _ hw

/-- A cell of the core's own belongs to one address. -/
theorem cellOf_owned {a b : Word} (ha : (regionOf a).coreOwned = true) : cellOf b = cellOf a ↔ b = a := by
  have h1 := (regionOf_echo_owned a).2.1 ha
  have h2 := regionOf_echo_owned b
  have h3 : ¬ regionOf a = .echoRam := by intro h; rw [h] at ha; exact absurd ha (by decide)
  have h4 : b.toNat < 0x10000 := b.isLt
  refine ⟨fun h => BitVec.eq_of_toNat_eq ?_, fun h => by rw [h]⟩
  unfold cellOf at h
  rw [if_neg h3] at h
  split at h
  · rename_i hb
    have := h2.1.1 hb
    omega
  · exact h

/-- A write at an address leaves every address with another cell. -/
theorem State.peek_put (s : State) (a b : Word) (v : Byte) (h : cellOf b ≠ cellOf a) :
    (s.put b v).peek a = s.peek a := by
  have hra := regionOf_range a
  have hrb := regionOf_range b
  cases hb : regionOf b <;> simp only [hb, Region.range] at hrb <;> simp only [State.put, hb]
  case interruptFlag =>
    refine State.peek_congr s _ a rfl ⟨rfl, rfl, rfl⟩ (fun e => ?_) (fun _ => rfl) rfl
    exact absurd (by simp [e, word_of_toNat hrb]) h
  case interruptEnable =>
    have hne : regionOf a ≠ .interruptEnable := by
      intro ha
      simp only [ha, Region.range] at hra
      exact h (by rw [word_of_toNat hra, word_of_toNat hrb])
    unfold State.peek
    cases ha : regionOf a <;> first | exact absurd ha hne | rfl
  case speedSwitch =>
    cases s.model
    case dmg => rfl
    case cgb =>
      have hne : regionOf a ≠ .speedSwitch := by
        intro ha
        simp only [ha, Region.range] at hra
        exact h (by rw [word_of_toNat hra, word_of_toNat hrb])
      unfold State.peek
      cases ha : regionOf a <;> first | exact absurd ha hne | rfl
  case externalRam =>
    split
    · exact State.peek_congr s _ a rfl ⟨rfl, rfl, rfl⟩ (fun _ => rfl) (fun _ => rfl)
        (by simpa using Memory.byteAt_store_ne _ _ (Ne.symm h))
    · rfl
  all_goals
    exact State.peek_congr s _ a rfl ⟨rfl, rfl, rfl⟩ (fun _ => rfl) (fun _ => rfl)
      (by simpa using Memory.byteAt_store_ne _ _ (Ne.symm h))

end Sys2Proof.Machine
end

