-- ==== Sys2Proof/Laws/Exec.lean ====
section
/-! SUPPORT. The 512 arms of exec by family: what exec of a family's instruction answers, as one shared meaning over
the family's fields, and the case split of an instruction into its families (one case per family, not per
constructor). Proofs about every instruction start here. -/

namespace Sys2Proof.Machine

/-! ## exec of a family -/

@[simp] theorem exec_ldReg (r : Reg8) (q : Reg8) (s : State) : exec (.ldReg r q) s = loadReg r q s := by
  cases r <;> cases q <;> rfl

@[simp] theorem exec_ldImm (r : Reg8) (v : Byte) (s : State) : exec (.ldImm r v) s = loadImm r v s := by
  cases r <;> rfl

@[simp] theorem exec_ldRegAtHl (r : Reg8) (s : State) : exec (.ldRegAtHl r) s = loadFrom r s.cpu.hl s := by
  cases r <;> rfl

@[simp] theorem exec_ldAtHlReg (r : Reg8) (s : State) : exec (.ldAtHlReg r) s = storeTo s.cpu.hl (s.cpu.r8 r) s := by
  cases r <;> rfl

@[simp] theorem exec_ldPairImm (p : Pair) (w : Word) (s : State) : exec (.ldPairImm p w) s = loadPair p w s := by
  cases p <;> rfl

@[simp] theorem exec_push (p : StackPair) (s : State) : exec (.push p) s = pushPair p s := by
  cases p <;> rfl

@[simp] theorem exec_pop (p : StackPair) (s : State) : exec (.pop p) s = popPair p s := by
  cases p <;> rfl

@[simp] theorem exec_aluReg (op : AluOp) (r : Reg8) (s : State) : exec (.aluReg op r) s = aluRegister op r s := by
  cases op <;> cases r <;> rfl

@[simp] theorem exec_aluAtHl (op : AluOp) (s : State) : exec (.aluAtHl op) s = aluMemory op s := by
  cases op <;> rfl

@[simp] theorem exec_aluImm (op : AluOp) (v : Byte) (s : State) : exec (.aluImm op v) s = aluImmediate op v s := by
  cases op <;> rfl

@[simp] theorem exec_incReg (r : Reg8) (s : State) : exec (.incReg r) s = incRegister r s := by
  cases r <;> rfl

@[simp] theorem exec_decReg (r : Reg8) (s : State) : exec (.decReg r) s = decRegister r s := by
  cases r <;> rfl

@[simp] theorem exec_addHlPair (p : Pair) (s : State) : exec (.addHlPair p) s = addToHl p s := by
  cases p <;> rfl

@[simp] theorem exec_incPair (p : Pair) (s : State) : exec (.incPair p) s = stepPair p 1 s := by
  cases p <;> rfl

@[simp] theorem exec_decPair (p : Pair) (s : State) : exec (.decPair p) s = stepPair p (-1) s := by
  cases p <;> rfl

@[simp] theorem exec_shiftReg (op : ShiftOp) (r : Reg8) (s : State) : exec (.shiftReg op r) s = shiftRegister op r s := by
  cases op <;> cases r <;> rfl

@[simp] theorem exec_shiftAtHl (op : ShiftOp) (s : State) : exec (.shiftAtHl op) s = shiftMemory op s := by
  cases op <;> rfl

@[simp] theorem exec_bitReg (k : Fin 8) (r : Reg8) (s : State) : exec (.bitReg k r) s = testRegister k r s := by
  fin_cases k <;> cases r <;> rfl

@[simp] theorem exec_bitAtHl (k : Fin 8) (s : State) : exec (.bitAtHl k) s = testMemory k s := by
  fin_cases k <;> rfl

@[simp] theorem exec_resReg (k : Fin 8) (r : Reg8) (s : State) : exec (.resReg k r) s = changeRegister (resetBit k) r s := by
  fin_cases k <;> cases r <;> rfl

@[simp] theorem exec_resAtHl (k : Fin 8) (s : State) : exec (.resAtHl k) s = changeMemory (resetBit k) s := by
  fin_cases k <;> rfl

@[simp] theorem exec_setReg (k : Fin 8) (r : Reg8) (s : State) : exec (.setReg k r) s = changeRegister (setBit k) r s := by
  fin_cases k <;> cases r <;> rfl

@[simp] theorem exec_setAtHl (k : Fin 8) (s : State) : exec (.setAtHl k) s = changeMemory (setBit k) s := by
  fin_cases k <;> rfl

@[simp] theorem exec_jpCond (cc : Cond) (w : Word) (s : State) : exec (.jpCond cc w) s = jumpIf cc w s := by
  cases cc <;> rfl

@[simp] theorem exec_jrCond (cc : Cond) (v : Byte) (s : State) : exec (.jrCond cc v) s = jumpRelativeIf cc v s := by
  cases cc <;> rfl

@[simp] theorem exec_callCond (cc : Cond) (w : Word) (s : State) : exec (.callCond cc w) s = callIf cc w s := by
  cases cc <;> rfl

@[simp] theorem exec_retCond (cc : Cond) (s : State) : exec (.retCond cc) s = returnIf cc s := by
  cases cc <;> rfl

@[simp] theorem exec_rst (k : Fin 8) (s : State) : exec (.rst k) s = callTo (restartTarget k) s := by
  fin_cases k <;> rfl

@[simp] theorem exec_unassigned (k : Fin 11) (s : State) : exec (.unassigned k) s = lockUp s := by
  fin_cases k <;> rfl

@[simp] theorem exec_ldAtAddrSp (a : Word) (s : State) : exec (.ldAtAddrSp a) s = storeSp a s := rfl

@[simp] theorem exec_jr (e : Byte) (s : State) : exec (.jr e) s = jumpRelative e s := rfl

@[simp] theorem exec_ldAtHlImm (d : Byte) (s : State) : exec (.ldAtHlImm d) s = storeTo s.cpu.hl d s := rfl

@[simp] theorem exec_jp (a : Word) (s : State) : exec (.jp a) s = jump a s := rfl

@[simp] theorem exec_call (a : Word) (s : State) : exec (.call a) s = callTo a s := rfl

@[simp] theorem exec_ldhAtOffA (o : Byte) (s : State) : exec (.ldhAtOffA o) s = storeTo (highPage o) s.cpu.a s := rfl

@[simp] theorem exec_addSpImm (e : Byte) (s : State) : exec (.addSpImm e) s = addToSp e s := rfl

@[simp] theorem exec_ldAtAddrA (a : Word) (s : State) : exec (.ldAtAddrA a) s = storeTo a s.cpu.a s := rfl

@[simp] theorem exec_ldhAAtOff (o : Byte) (s : State) : exec (.ldhAAtOff o) s = loadFrom .a (highPage o) s := rfl

@[simp] theorem exec_ldHlSpImm (e : Byte) (s : State) : exec (.ldHlSpImm e) s = loadHlSpOffset e s := rfl

@[simp] theorem exec_ldAAtAddr (a : Word) (s : State) : exec (.ldAAtAddr a) s = loadFrom .a a s := rfl

@[simp] theorem exec_nop (s : State) : exec .nop s = .next s := rfl

@[simp] theorem exec_ldAtBcA (s : State) : exec .ldAtBcA s = storeTo s.cpu.bc s.cpu.a s := rfl

@[simp] theorem exec_rlca (s : State) : exec .rlca s = rotateA .rlc s := rfl

@[simp] theorem exec_ldAAtBc (s : State) : exec .ldAAtBc s = loadFrom .a s.cpu.bc s := rfl

@[simp] theorem exec_rrca (s : State) : exec .rrca s = rotateA .rrc s := rfl

@[simp] theorem exec_stop (s : State) : exec .stop s = execStop s := rfl

@[simp] theorem exec_ldAtDeA (s : State) : exec .ldAtDeA s = storeTo s.cpu.de s.cpu.a s := rfl

@[simp] theorem exec_rla (s : State) : exec .rla s = rotateA .rl s := rfl

@[simp] theorem exec_ldAAtDe (s : State) : exec .ldAAtDe s = loadFrom .a s.cpu.de s := rfl

@[simp] theorem exec_rra (s : State) : exec .rra s = rotateA .rr s := rfl

@[simp] theorem exec_ldAtHlIncA (s : State) : exec .ldAtHlIncA s = storeAStep 1 s := rfl

@[simp] theorem exec_daa (s : State) : exec .daa s = execDaa s := rfl

@[simp] theorem exec_ldAAtHlInc (s : State) : exec .ldAAtHlInc s = loadAStep 1 s := rfl

@[simp] theorem exec_cpl (s : State) : exec .cpl s = execCpl s := rfl

@[simp] theorem exec_ldAtHlDecA (s : State) : exec .ldAtHlDecA s = storeAStep (-1) s := rfl

@[simp] theorem exec_incAtHl (s : State) : exec .incAtHl s = updateMemory inc8 s := rfl

@[simp] theorem exec_decAtHl (s : State) : exec .decAtHl s = updateMemory dec8 s := rfl

@[simp] theorem exec_scf (s : State) : exec .scf s = execScf s := rfl

@[simp] theorem exec_ldAAtHlDec (s : State) : exec .ldAAtHlDec s = loadAStep (-1) s := rfl

@[simp] theorem exec_ccf (s : State) : exec .ccf s = execCcf s := rfl

@[simp] theorem exec_halt (s : State) : exec .halt s = execHalt s := rfl

@[simp] theorem exec_ret (s : State) : exec .ret s = returnPlain s := rfl

@[simp] theorem exec_prefixCb (s : State) : exec .prefixCb s = execPrefixCb s := rfl

@[simp] theorem exec_reti (s : State) : exec .reti s = execReti s := rfl

@[simp] theorem exec_ldAtCA (s : State) : exec .ldAtCA s = storeTo (highPage s.cpu.c) s.cpu.a s := rfl

@[simp] theorem exec_jpHl (s : State) : exec .jpHl s = jumpToHl s := rfl

@[simp] theorem exec_ldAAtC (s : State) : exec .ldAAtC s = loadFrom .a (highPage s.cpu.c) s := rfl

@[simp] theorem exec_di (s : State) : exec .di s = execDi s := rfl

@[simp] theorem exec_ldSpHl (s : State) : exec .ldSpHl s = loadSpFromHl s := rfl

@[simp] theorem exec_ei (s : State) : exec .ei s = execEi s := rfl

/-! ## The families of the instruction set -/

/-- A property of every instruction, shown family by family. -/
theorem exec_families {P : Instr → Prop}
    (ldReg : ∀ (r : Reg8) (q : Reg8), P (.ldReg r q))
    (ldImm : ∀ (r : Reg8) (v : Byte), P (.ldImm r v))
    (ldRegAtHl : ∀ (r : Reg8), P (.ldRegAtHl r))
    (ldAtHlReg : ∀ (r : Reg8), P (.ldAtHlReg r))
    (ldPairImm : ∀ (p : Pair) (w : Word), P (.ldPairImm p w))
    (push : ∀ (p : StackPair), P (.push p))
    (pop : ∀ (p : StackPair), P (.pop p))
    (aluReg : ∀ (op : AluOp) (r : Reg8), P (.aluReg op r))
    (aluAtHl : ∀ (op : AluOp), P (.aluAtHl op))
    (aluImm : ∀ (op : AluOp) (v : Byte), P (.aluImm op v))
    (incReg : ∀ (r : Reg8), P (.incReg r))
    (decReg : ∀ (r : Reg8), P (.decReg r))
    (addHlPair : ∀ (p : Pair), P (.addHlPair p))
    (incPair : ∀ (p : Pair), P (.incPair p))
    (decPair : ∀ (p : Pair), P (.decPair p))
    (shiftReg : ∀ (op : ShiftOp) (r : Reg8), P (.shiftReg op r))
    (shiftAtHl : ∀ (op : ShiftOp), P (.shiftAtHl op))
    (bitReg : ∀ (k : Fin 8) (r : Reg8), P (.bitReg k r))
    (bitAtHl : ∀ (k : Fin 8), P (.bitAtHl k))
    (resReg : ∀ (k : Fin 8) (r : Reg8), P (.resReg k r))
    (resAtHl : ∀ (k : Fin 8), P (.resAtHl k))
    (setReg : ∀ (k : Fin 8) (r : Reg8), P (.setReg k r))
    (setAtHl : ∀ (k : Fin 8), P (.setAtHl k))
    (jpCond : ∀ (cc : Cond) (w : Word), P (.jpCond cc w))
    (jrCond : ∀ (cc : Cond) (v : Byte), P (.jrCond cc v))
    (callCond : ∀ (cc : Cond) (w : Word), P (.callCond cc w))
    (retCond : ∀ (cc : Cond), P (.retCond cc))
    (rst : ∀ (k : Fin 8), P (.rst k))
    (unassigned : ∀ (k : Fin 11), P (.unassigned k))
    (ldAtAddrSp : ∀ a : Word, P (.ldAtAddrSp a))
    (jr : ∀ e : Byte, P (.jr e))
    (ldAtHlImm : ∀ d : Byte, P (.ldAtHlImm d))
    (jp : ∀ a : Word, P (.jp a))
    (call : ∀ a : Word, P (.call a))
    (ldhAtOffA : ∀ o : Byte, P (.ldhAtOffA o))
    (addSpImm : ∀ e : Byte, P (.addSpImm e))
    (ldAtAddrA : ∀ a : Word, P (.ldAtAddrA a))
    (ldhAAtOff : ∀ o : Byte, P (.ldhAAtOff o))
    (ldHlSpImm : ∀ e : Byte, P (.ldHlSpImm e))
    (ldAAtAddr : ∀ a : Word, P (.ldAAtAddr a))
    (nop : P .nop)
    (ldAtBcA : P .ldAtBcA)
    (rlca : P .rlca)
    (ldAAtBc : P .ldAAtBc)
    (rrca : P .rrca)
    (stop : P .stop)
    (ldAtDeA : P .ldAtDeA)
    (rla : P .rla)
    (ldAAtDe : P .ldAAtDe)
    (rra : P .rra)
    (ldAtHlIncA : P .ldAtHlIncA)
    (daa : P .daa)
    (ldAAtHlInc : P .ldAAtHlInc)
    (cpl : P .cpl)
    (ldAtHlDecA : P .ldAtHlDecA)
    (incAtHl : P .incAtHl)
    (decAtHl : P .decAtHl)
    (scf : P .scf)
    (ldAAtHlDec : P .ldAAtHlDec)
    (ccf : P .ccf)
    (halt : P .halt)
    (ret : P .ret)
    (prefixCb : P .prefixCb)
    (reti : P .reti)
    (ldAtCA : P .ldAtCA)
    (jpHl : P .jpHl)
    (ldAAtC : P .ldAAtC)
    (di : P .di)
    (ldSpHl : P .ldSpHl)
    (ei : P .ei)
    (i : Instr) : P i := by
  refine Instr.rec (motive := fun i => P i)
    (fun v => ldPairImm .bc v) (fun v => ldImm .b v) ldAtAddrSp (fun v => ldImm .c v) (fun v => ldPairImm .de v)
    (fun v => ldImm .d v) jr (fun v => ldImm .e v) (fun e => jrCond .nz e) (fun v => ldPairImm .hl v)
    (fun v => ldImm .h v) (fun e => jrCond .z e) (fun v => ldImm .l v) (fun e => jrCond .nc e)
    (fun v => ldPairImm .sp v) ldAtHlImm (fun e => jrCond .c e) (fun v => ldImm .a v) (fun a => jpCond .nz a) jp
    (fun a => callCond .nz a) (fun v => aluImm .add v) (fun a => jpCond .z a) (fun a => callCond .z a) call
    (fun v => aluImm .adc v) (fun a => jpCond .nc a) (fun a => callCond .nc a) (fun v => aluImm .sub v)
    (fun a => jpCond .c a) (fun a => callCond .c a) (fun v => aluImm .sbc v) ldhAtOffA (fun v => aluImm .and v)
    addSpImm ldAtAddrA (fun v => aluImm .xor v) ldhAAtOff (fun v => aluImm .or v) ldHlSpImm ldAAtAddr
    (fun v => aluImm .cp v) nop ldAtBcA (incPair .bc) (incReg .b) (decReg .b) rlca (addHlPair .bc) ldAAtBc
    (decPair .bc) (incReg .c) (decReg .c) rrca stop ldAtDeA (incPair .de) (incReg .d) (decReg .d) rla
    (addHlPair .de) ldAAtDe (decPair .de) (incReg .e) (decReg .e) rra ldAtHlIncA (incPair .hl) (incReg .h)
    (decReg .h) daa (addHlPair .hl) ldAAtHlInc (decPair .hl) (incReg .l) (decReg .l) cpl ldAtHlDecA
    (incPair .sp) incAtHl decAtHl scf (addHlPair .sp) ldAAtHlDec (decPair .sp) (incReg .a) (decReg .a) ccf
    (ldReg .b .b) (ldReg .b .c) (ldReg .b .d) (ldReg .b .e) (ldReg .b .h) (ldReg .b .l) (ldRegAtHl .b)
    (ldReg .b .a) (ldReg .c .b) (ldReg .c .c) (ldReg .c .d) (ldReg .c .e) (ldReg .c .h) (ldReg .c .l)
    (ldRegAtHl .c) (ldReg .c .a) (ldReg .d .b) (ldReg .d .c) (ldReg .d .d) (ldReg .d .e) (ldReg .d .h)
    (ldReg .d .l) (ldRegAtHl .d) (ldReg .d .a) (ldReg .e .b) (ldReg .e .c) (ldReg .e .d) (ldReg .e .e)
    (ldReg .e .h) (ldReg .e .l) (ldRegAtHl .e) (ldReg .e .a) (ldReg .h .b) (ldReg .h .c) (ldReg .h .d)
    (ldReg .h .e) (ldReg .h .h) (ldReg .h .l) (ldRegAtHl .h) (ldReg .h .a) (ldReg .l .b) (ldReg .l .c)
    (ldReg .l .d) (ldReg .l .e) (ldReg .l .h) (ldReg .l .l) (ldRegAtHl .l) (ldReg .l .a) (ldAtHlReg .b)
    (ldAtHlReg .c) (ldAtHlReg .d) (ldAtHlReg .e) (ldAtHlReg .h) (ldAtHlReg .l) halt (ldAtHlReg .a) (ldReg .a .b)
    (ldReg .a .c) (ldReg .a .d) (ldReg .a .e) (ldReg .a .h) (ldReg .a .l) (ldRegAtHl .a) (ldReg .a .a)
    (aluReg .add .b) (aluReg .add .c) (aluReg .add .d) (aluReg .add .e) (aluReg .add .h) (aluReg .add .l)
    (aluAtHl .add) (aluReg .add .a) (aluReg .adc .b) (aluReg .adc .c) (aluReg .adc .d) (aluReg .adc .e)
    (aluReg .adc .h) (aluReg .adc .l) (aluAtHl .adc) (aluReg .adc .a) (aluReg .sub .b) (aluReg .sub .c)
    (aluReg .sub .d) (aluReg .sub .e) (aluReg .sub .h) (aluReg .sub .l) (aluAtHl .sub) (aluReg .sub .a)
    (aluReg .sbc .b) (aluReg .sbc .c) (aluReg .sbc .d) (aluReg .sbc .e) (aluReg .sbc .h) (aluReg .sbc .l)
    (aluAtHl .sbc) (aluReg .sbc .a) (aluReg .and .b) (aluReg .and .c) (aluReg .and .d) (aluReg .and .e)
    (aluReg .and .h) (aluReg .and .l) (aluAtHl .and) (aluReg .and .a) (aluReg .xor .b) (aluReg .xor .c)
    (aluReg .xor .d) (aluReg .xor .e) (aluReg .xor .h) (aluReg .xor .l) (aluAtHl .xor) (aluReg .xor .a)
    (aluReg .or .b) (aluReg .or .c) (aluReg .or .d) (aluReg .or .e) (aluReg .or .h) (aluReg .or .l)
    (aluAtHl .or) (aluReg .or .a) (aluReg .cp .b) (aluReg .cp .c) (aluReg .cp .d) (aluReg .cp .e)
    (aluReg .cp .h) (aluReg .cp .l) (aluAtHl .cp) (aluReg .cp .a) (retCond .nz) (pop .bc) (push .bc) (rst 0)
    (retCond .z) ret prefixCb (rst 1) (retCond .nc) (pop .de) (unassigned 0) (push .de) (rst 2) (retCond .c)
    reti (unassigned 1) (unassigned 2) (rst 3) (pop .hl) ldAtCA (unassigned 3) (unassigned 4) (push .hl) (rst 4)
    jpHl (unassigned 5) (unassigned 6) (unassigned 7) (rst 5) (pop .af) ldAAtC di (unassigned 8) (push .af)
    (rst 6) ldSpHl ei (unassigned 9) (unassigned 10) (rst 7) (shiftReg .rlc .b) (shiftReg .rlc .c)
    (shiftReg .rlc .d) (shiftReg .rlc .e) (shiftReg .rlc .h) (shiftReg .rlc .l) (shiftAtHl .rlc)
    (shiftReg .rlc .a) (shiftReg .rrc .b) (shiftReg .rrc .c) (shiftReg .rrc .d) (shiftReg .rrc .e)
    (shiftReg .rrc .h) (shiftReg .rrc .l) (shiftAtHl .rrc) (shiftReg .rrc .a) (shiftReg .rl .b)
    (shiftReg .rl .c) (shiftReg .rl .d) (shiftReg .rl .e) (shiftReg .rl .h) (shiftReg .rl .l) (shiftAtHl .rl)
    (shiftReg .rl .a) (shiftReg .rr .b) (shiftReg .rr .c) (shiftReg .rr .d) (shiftReg .rr .e) (shiftReg .rr .h)
    (shiftReg .rr .l) (shiftAtHl .rr) (shiftReg .rr .a) (shiftReg .sla .b) (shiftReg .sla .c) (shiftReg .sla .d)
    (shiftReg .sla .e) (shiftReg .sla .h) (shiftReg .sla .l) (shiftAtHl .sla) (shiftReg .sla .a)
    (shiftReg .sra .b) (shiftReg .sra .c) (shiftReg .sra .d) (shiftReg .sra .e) (shiftReg .sra .h)
    (shiftReg .sra .l) (shiftAtHl .sra) (shiftReg .sra .a) (shiftReg .swap .b) (shiftReg .swap .c)
    (shiftReg .swap .d) (shiftReg .swap .e) (shiftReg .swap .h) (shiftReg .swap .l) (shiftAtHl .swap)
    (shiftReg .swap .a) (shiftReg .srl .b) (shiftReg .srl .c) (shiftReg .srl .d) (shiftReg .srl .e)
    (shiftReg .srl .h) (shiftReg .srl .l) (shiftAtHl .srl) (shiftReg .srl .a) (bitReg 0 .b) (bitReg 0 .c)
    (bitReg 0 .d) (bitReg 0 .e) (bitReg 0 .h) (bitReg 0 .l) (bitAtHl 0) (bitReg 0 .a) (bitReg 1 .b)
    (bitReg 1 .c) (bitReg 1 .d) (bitReg 1 .e) (bitReg 1 .h) (bitReg 1 .l) (bitAtHl 1) (bitReg 1 .a)
    (bitReg 2 .b) (bitReg 2 .c) (bitReg 2 .d) (bitReg 2 .e) (bitReg 2 .h) (bitReg 2 .l) (bitAtHl 2)
    (bitReg 2 .a) (bitReg 3 .b) (bitReg 3 .c) (bitReg 3 .d) (bitReg 3 .e) (bitReg 3 .h) (bitReg 3 .l)
    (bitAtHl 3) (bitReg 3 .a) (bitReg 4 .b) (bitReg 4 .c) (bitReg 4 .d) (bitReg 4 .e) (bitReg 4 .h)
    (bitReg 4 .l) (bitAtHl 4) (bitReg 4 .a) (bitReg 5 .b) (bitReg 5 .c) (bitReg 5 .d) (bitReg 5 .e)
    (bitReg 5 .h) (bitReg 5 .l) (bitAtHl 5) (bitReg 5 .a) (bitReg 6 .b) (bitReg 6 .c) (bitReg 6 .d)
    (bitReg 6 .e) (bitReg 6 .h) (bitReg 6 .l) (bitAtHl 6) (bitReg 6 .a) (bitReg 7 .b) (bitReg 7 .c)
    (bitReg 7 .d) (bitReg 7 .e) (bitReg 7 .h) (bitReg 7 .l) (bitAtHl 7) (bitReg 7 .a) (resReg 0 .b)
    (resReg 0 .c) (resReg 0 .d) (resReg 0 .e) (resReg 0 .h) (resReg 0 .l) (resAtHl 0) (resReg 0 .a)
    (resReg 1 .b) (resReg 1 .c) (resReg 1 .d) (resReg 1 .e) (resReg 1 .h) (resReg 1 .l) (resAtHl 1)
    (resReg 1 .a) (resReg 2 .b) (resReg 2 .c) (resReg 2 .d) (resReg 2 .e) (resReg 2 .h) (resReg 2 .l)
    (resAtHl 2) (resReg 2 .a) (resReg 3 .b) (resReg 3 .c) (resReg 3 .d) (resReg 3 .e) (resReg 3 .h)
    (resReg 3 .l) (resAtHl 3) (resReg 3 .a) (resReg 4 .b) (resReg 4 .c) (resReg 4 .d) (resReg 4 .e)
    (resReg 4 .h) (resReg 4 .l) (resAtHl 4) (resReg 4 .a) (resReg 5 .b) (resReg 5 .c) (resReg 5 .d)
    (resReg 5 .e) (resReg 5 .h) (resReg 5 .l) (resAtHl 5) (resReg 5 .a) (resReg 6 .b) (resReg 6 .c)
    (resReg 6 .d) (resReg 6 .e) (resReg 6 .h) (resReg 6 .l) (resAtHl 6) (resReg 6 .a) (resReg 7 .b)
    (resReg 7 .c) (resReg 7 .d) (resReg 7 .e) (resReg 7 .h) (resReg 7 .l) (resAtHl 7) (resReg 7 .a)
    (setReg 0 .b) (setReg 0 .c) (setReg 0 .d) (setReg 0 .e) (setReg 0 .h) (setReg 0 .l) (setAtHl 0)
    (setReg 0 .a) (setReg 1 .b) (setReg 1 .c) (setReg 1 .d) (setReg 1 .e) (setReg 1 .h) (setReg 1 .l)
    (setAtHl 1) (setReg 1 .a) (setReg 2 .b) (setReg 2 .c) (setReg 2 .d) (setReg 2 .e) (setReg 2 .h)
    (setReg 2 .l) (setAtHl 2) (setReg 2 .a) (setReg 3 .b) (setReg 3 .c) (setReg 3 .d) (setReg 3 .e)
    (setReg 3 .h) (setReg 3 .l) (setAtHl 3) (setReg 3 .a) (setReg 4 .b) (setReg 4 .c) (setReg 4 .d)
    (setReg 4 .e) (setReg 4 .h) (setReg 4 .l) (setAtHl 4) (setReg 4 .a) (setReg 5 .b) (setReg 5 .c)
    (setReg 5 .d) (setReg 5 .e) (setReg 5 .h) (setReg 5 .l) (setAtHl 5) (setReg 5 .a) (setReg 6 .b)
    (setReg 6 .c) (setReg 6 .d) (setReg 6 .e) (setReg 6 .h) (setReg 6 .l) (setAtHl 6) (setReg 6 .a)
    (setReg 7 .b) (setReg 7 .c) (setReg 7 .d) (setReg 7 .e) (setReg 7 .h) (setReg 7 .l) (setAtHl 7)
    (setReg 7 .a) i

/-! ## The CB prefix -/

/-- A function of a column's entry is the column of the function. -/
theorem pick16_map {α β : Type} (f : α → β) (k : BitVec 4) (x0 x1 x2 x3 x4 x5 x6 x7 x8 x9 xA xB xC xD xE xF : α) :
    f (pick16 k x0 x1 x2 x3 x4 x5 x6 x7 x8 x9 xA xB xC xD xE xF) =
      pick16 k (f x0) (f x1) (f x2) (f x3) (f x4) (f x5) (f x6) (f x7) (f x8) (f x9) (f xA) (f xB) (f xC) (f xD) (f xE) (f xF) := by
  unfold pick16
  split <;> rfl

/-- A row of CB meanings is exec of the row of CB instructions. -/
theorem cbMeaning_rows (lo : BitVec 4) (s : State) :
    cbMeaningRow0 lo s = exec (cbRow0 lo) s ∧ cbMeaningRow1 lo s = exec (cbRow1 lo) s ∧
    cbMeaningRow2 lo s = exec (cbRow2 lo) s ∧ cbMeaningRow3 lo s = exec (cbRow3 lo) s ∧
    cbMeaningRow4 lo s = exec (cbRow4 lo) s ∧ cbMeaningRow5 lo s = exec (cbRow5 lo) s ∧
    cbMeaningRow6 lo s = exec (cbRow6 lo) s ∧ cbMeaningRow7 lo s = exec (cbRow7 lo) s ∧
    cbMeaningRow8 lo s = exec (cbRow8 lo) s ∧ cbMeaningRow9 lo s = exec (cbRow9 lo) s ∧
    cbMeaningRowA lo s = exec (cbRowA lo) s ∧ cbMeaningRowB lo s = exec (cbRowB lo) s ∧
    cbMeaningRowC lo s = exec (cbRowC lo) s ∧ cbMeaningRowD lo s = exec (cbRowD lo) s ∧
    cbMeaningRowE lo s = exec (cbRowE lo) s ∧ cbMeaningRowF lo s = exec (cbRowF lo) s := by
  refine ⟨?_, ?_, ?_, ?_, ?_, ?_, ?_, ?_, ?_, ?_, ?_, ?_, ?_, ?_, ?_, ?_⟩
  · unfold cbRow0; rw [pick16_map (fun i => exec i s)]; rfl
  · unfold cbRow1; rw [pick16_map (fun i => exec i s)]; rfl
  · unfold cbRow2; rw [pick16_map (fun i => exec i s)]; rfl
  · unfold cbRow3; rw [pick16_map (fun i => exec i s)]; rfl
  · unfold cbRow4; rw [pick16_map (fun i => exec i s)]; rfl
  · unfold cbRow5; rw [pick16_map (fun i => exec i s)]; rfl
  · unfold cbRow6; rw [pick16_map (fun i => exec i s)]; rfl
  · unfold cbRow7; rw [pick16_map (fun i => exec i s)]; rfl
  · unfold cbRow8; rw [pick16_map (fun i => exec i s)]; rfl
  · unfold cbRow9; rw [pick16_map (fun i => exec i s)]; rfl
  · unfold cbRowA; rw [pick16_map (fun i => exec i s)]; rfl
  · unfold cbRowB; rw [pick16_map (fun i => exec i s)]; rfl
  · unfold cbRowC; rw [pick16_map (fun i => exec i s)]; rfl
  · unfold cbRowD; rw [pick16_map (fun i => exec i s)]; rfl
  · unfold cbRowE; rw [pick16_map (fun i => exec i s)]; rfl
  · unfold cbRowF; rw [pick16_map (fun i => exec i s)]; rfl

/-- The meaning of a CB second byte is exec of the instruction it selects. -/
theorem cbMeaning_eq (op2 : Byte) (s : State) : cbMeaning op2 s = exec (cbEntry op2) s := by
  obtain ⟨h0, h1, h2, h3, h4, h5, h6, h7, h8, h9, hA, hB, hC, hD, hE, hF⟩ := cbMeaning_rows (loNibble op2) s
  unfold cbMeaning cbEntry
  rw [pick16_map (fun i => exec i s), h0, h1, h2, h3, h4, h5, h6, h7, h8, h9, hA, hB, hC, hD, hE, hF]

end Sys2Proof.Machine
end

