-- ==== Sys2Proof/Laws/Decode.lean ====
section
/-! SUPPORT. The opcode maps by family: a property of every entry of the primary map and of the CB map, shown once
per family from the bit patterns of 30_encoding.md, and the lengths of what decode reads. -/

namespace Sys2Proof.Machine

open Sys2Proof.Certificates

/-- A byte is its two nibbles. -/
theorem nibbles (op : Byte) : (hiNibble op ++ loNibble op : Byte) = op := by
  apply BitVec.eq_of_getLsbD_eq
  intro i hi
  have : (hiNibble op ++ loNibble op : Byte).getLsbD i = _ := BitVec.getLsbD_append
  rw [this]
  by_cases h : i < 4
  · simp [h, loNibble]
  · simp [h, hiNibble, show i - 4 < 4 by omega, show 4 + (i - 4) = i by omega]

/-- A property of a column shown for each of the sixteen entries. -/
theorem pick16_all {α : Type} {P : BitVec 4 → α → Prop} {x0 x1 x2 x3 x4 x5 x6 x7 x8 x9 xA xB xC xD xE xF : α}
    (h0 : P 0 x0)    (h1 : P 1 x1)    (h2 : P 2 x2)    (h3 : P 3 x3)
    (h4 : P 4 x4)    (h5 : P 5 x5)    (h6 : P 6 x6)    (h7 : P 7 x7)
    (h8 : P 8 x8)    (h9 : P 9 x9)    (hA : P 10 xA)    (hB : P 11 xB)
    (hC : P 12 xC)    (hD : P 13 xD)    (hE : P 14 xE)    (hF : P 15 xF)
    (k : BitVec 4) : P k (pick16 k x0 x1 x2 x3 x4 x5 x6 x7 x8 x9 xA xB xC xD xE xF) := by
  have hk := k.isLt
  unfold pick16
  split <;> rename_i h
  · rwa [show k = 0 from BitVec.eq_of_toNat_eq h]
  · rwa [show k = 1 from BitVec.eq_of_toNat_eq h]
  · rwa [show k = 2 from BitVec.eq_of_toNat_eq h]
  · rwa [show k = 3 from BitVec.eq_of_toNat_eq h]
  · rwa [show k = 4 from BitVec.eq_of_toNat_eq h]
  · rwa [show k = 5 from BitVec.eq_of_toNat_eq h]
  · rwa [show k = 6 from BitVec.eq_of_toNat_eq h]
  · rwa [show k = 7 from BitVec.eq_of_toNat_eq h]
  · rwa [show k = 8 from BitVec.eq_of_toNat_eq h]
  · rwa [show k = 9 from BitVec.eq_of_toNat_eq h]
  · rwa [show k = 10 from BitVec.eq_of_toNat_eq h]
  · rwa [show k = 11 from BitVec.eq_of_toNat_eq h]
  · rwa [show k = 12 from BitVec.eq_of_toNat_eq h]
  · rwa [show k = 13 from BitVec.eq_of_toNat_eq h]
  · rwa [show k = 14 from BitVec.eq_of_toNat_eq h]
  · simp only [imp_false] at *
    have h15 : k.toNat = 15 := by omega
    rwa [show k = 15 from BitVec.eq_of_toNat_eq h15]

/-- A property of every entry of the CB map (R157), shown family by family. -/
theorem cbEntry_families {P : Byte → Instr → Prop}
    (shiftReg : ∀ (op : ShiftOp) (r : Reg8), P (pat 0b00 (shiftField op) (regField r)) (.shiftReg op r))
    (shiftAtHl : ∀ (op : ShiftOp), P (pat 0b00 (shiftField op) 0b110) (.shiftAtHl op))
    (bitReg : ∀ (k : Fin 8) (r : Reg8), P (pat 0b01 (indexField k) (regField r)) (.bitReg k r))
    (bitAtHl : ∀ (k : Fin 8), P (pat 0b01 (indexField k) 0b110) (.bitAtHl k))
    (resReg : ∀ (k : Fin 8) (r : Reg8), P (pat 0b10 (indexField k) (regField r)) (.resReg k r))
    (resAtHl : ∀ (k : Fin 8), P (pat 0b10 (indexField k) 0b110) (.resAtHl k))
    (setReg : ∀ (k : Fin 8) (r : Reg8), P (pat 0b11 (indexField k) (regField r)) (.setReg k r))
    (setAtHl : ∀ (k : Fin 8), P (pat 0b11 (indexField k) 0b110) (.setAtHl k))
    (op : Byte) : P op (cbEntry op) := by
  have h0 : ∀ lo, P (0#4 ++ lo) (cbRow0 lo) := pick16_all (P := fun lo e => P (0#4 ++ lo) e)
    (shiftReg .rlc .b) (shiftReg .rlc .c) (shiftReg .rlc .d) (shiftReg .rlc .e) (shiftReg .rlc .h)
    (shiftReg .rlc .l) (shiftAtHl .rlc) (shiftReg .rlc .a) (shiftReg .rrc .b) (shiftReg .rrc .c)
    (shiftReg .rrc .d) (shiftReg .rrc .e) (shiftReg .rrc .h) (shiftReg .rrc .l) (shiftAtHl .rrc)
    (shiftReg .rrc .a)
  have h1 : ∀ lo, P (1#4 ++ lo) (cbRow1 lo) := pick16_all (P := fun lo e => P (1#4 ++ lo) e)
    (shiftReg .rl .b) (shiftReg .rl .c) (shiftReg .rl .d) (shiftReg .rl .e) (shiftReg .rl .h) (shiftReg .rl .l)
    (shiftAtHl .rl) (shiftReg .rl .a) (shiftReg .rr .b) (shiftReg .rr .c) (shiftReg .rr .d) (shiftReg .rr .e)
    (shiftReg .rr .h) (shiftReg .rr .l) (shiftAtHl .rr) (shiftReg .rr .a)
  have h2 : ∀ lo, P (2#4 ++ lo) (cbRow2 lo) := pick16_all (P := fun lo e => P (2#4 ++ lo) e)
    (shiftReg .sla .b) (shiftReg .sla .c) (shiftReg .sla .d) (shiftReg .sla .e) (shiftReg .sla .h)
    (shiftReg .sla .l) (shiftAtHl .sla) (shiftReg .sla .a) (shiftReg .sra .b) (shiftReg .sra .c)
    (shiftReg .sra .d) (shiftReg .sra .e) (shiftReg .sra .h) (shiftReg .sra .l) (shiftAtHl .sra)
    (shiftReg .sra .a)
  have h3 : ∀ lo, P (3#4 ++ lo) (cbRow3 lo) := pick16_all (P := fun lo e => P (3#4 ++ lo) e)
    (shiftReg .swap .b) (shiftReg .swap .c) (shiftReg .swap .d) (shiftReg .swap .e) (shiftReg .swap .h)
    (shiftReg .swap .l) (shiftAtHl .swap) (shiftReg .swap .a) (shiftReg .srl .b) (shiftReg .srl .c)
    (shiftReg .srl .d) (shiftReg .srl .e) (shiftReg .srl .h) (shiftReg .srl .l) (shiftAtHl .srl)
    (shiftReg .srl .a)
  have h4 : ∀ lo, P (4#4 ++ lo) (cbRow4 lo) := pick16_all (P := fun lo e => P (4#4 ++ lo) e)
    (bitReg 0 .b) (bitReg 0 .c) (bitReg 0 .d) (bitReg 0 .e) (bitReg 0 .h) (bitReg 0 .l) (bitAtHl 0)
    (bitReg 0 .a) (bitReg 1 .b) (bitReg 1 .c) (bitReg 1 .d) (bitReg 1 .e) (bitReg 1 .h) (bitReg 1 .l)
    (bitAtHl 1) (bitReg 1 .a)
  have h5 : ∀ lo, P (5#4 ++ lo) (cbRow5 lo) := pick16_all (P := fun lo e => P (5#4 ++ lo) e)
    (bitReg 2 .b) (bitReg 2 .c) (bitReg 2 .d) (bitReg 2 .e) (bitReg 2 .h) (bitReg 2 .l) (bitAtHl 2)
    (bitReg 2 .a) (bitReg 3 .b) (bitReg 3 .c) (bitReg 3 .d) (bitReg 3 .e) (bitReg 3 .h) (bitReg 3 .l)
    (bitAtHl 3) (bitReg 3 .a)
  have h6 : ∀ lo, P (6#4 ++ lo) (cbRow6 lo) := pick16_all (P := fun lo e => P (6#4 ++ lo) e)
    (bitReg 4 .b) (bitReg 4 .c) (bitReg 4 .d) (bitReg 4 .e) (bitReg 4 .h) (bitReg 4 .l) (bitAtHl 4)
    (bitReg 4 .a) (bitReg 5 .b) (bitReg 5 .c) (bitReg 5 .d) (bitReg 5 .e) (bitReg 5 .h) (bitReg 5 .l)
    (bitAtHl 5) (bitReg 5 .a)
  have h7 : ∀ lo, P (7#4 ++ lo) (cbRow7 lo) := pick16_all (P := fun lo e => P (7#4 ++ lo) e)
    (bitReg 6 .b) (bitReg 6 .c) (bitReg 6 .d) (bitReg 6 .e) (bitReg 6 .h) (bitReg 6 .l) (bitAtHl 6)
    (bitReg 6 .a) (bitReg 7 .b) (bitReg 7 .c) (bitReg 7 .d) (bitReg 7 .e) (bitReg 7 .h) (bitReg 7 .l)
    (bitAtHl 7) (bitReg 7 .a)
  have h8 : ∀ lo, P (8#4 ++ lo) (cbRow8 lo) := pick16_all (P := fun lo e => P (8#4 ++ lo) e)
    (resReg 0 .b) (resReg 0 .c) (resReg 0 .d) (resReg 0 .e) (resReg 0 .h) (resReg 0 .l) (resAtHl 0)
    (resReg 0 .a) (resReg 1 .b) (resReg 1 .c) (resReg 1 .d) (resReg 1 .e) (resReg 1 .h) (resReg 1 .l)
    (resAtHl 1) (resReg 1 .a)
  have h9 : ∀ lo, P (9#4 ++ lo) (cbRow9 lo) := pick16_all (P := fun lo e => P (9#4 ++ lo) e)
    (resReg 2 .b) (resReg 2 .c) (resReg 2 .d) (resReg 2 .e) (resReg 2 .h) (resReg 2 .l) (resAtHl 2)
    (resReg 2 .a) (resReg 3 .b) (resReg 3 .c) (resReg 3 .d) (resReg 3 .e) (resReg 3 .h) (resReg 3 .l)
    (resAtHl 3) (resReg 3 .a)
  have hA : ∀ lo, P (10#4 ++ lo) (cbRowA lo) := pick16_all (P := fun lo e => P (10#4 ++ lo) e)
    (resReg 4 .b) (resReg 4 .c) (resReg 4 .d) (resReg 4 .e) (resReg 4 .h) (resReg 4 .l) (resAtHl 4)
    (resReg 4 .a) (resReg 5 .b) (resReg 5 .c) (resReg 5 .d) (resReg 5 .e) (resReg 5 .h) (resReg 5 .l)
    (resAtHl 5) (resReg 5 .a)
  have hB : ∀ lo, P (11#4 ++ lo) (cbRowB lo) := pick16_all (P := fun lo e => P (11#4 ++ lo) e)
    (resReg 6 .b) (resReg 6 .c) (resReg 6 .d) (resReg 6 .e) (resReg 6 .h) (resReg 6 .l) (resAtHl 6)
    (resReg 6 .a) (resReg 7 .b) (resReg 7 .c) (resReg 7 .d) (resReg 7 .e) (resReg 7 .h) (resReg 7 .l)
    (resAtHl 7) (resReg 7 .a)
  have hC : ∀ lo, P (12#4 ++ lo) (cbRowC lo) := pick16_all (P := fun lo e => P (12#4 ++ lo) e)
    (setReg 0 .b) (setReg 0 .c) (setReg 0 .d) (setReg 0 .e) (setReg 0 .h) (setReg 0 .l) (setAtHl 0)
    (setReg 0 .a) (setReg 1 .b) (setReg 1 .c) (setReg 1 .d) (setReg 1 .e) (setReg 1 .h) (setReg 1 .l)
    (setAtHl 1) (setReg 1 .a)
  have hD : ∀ lo, P (13#4 ++ lo) (cbRowD lo) := pick16_all (P := fun lo e => P (13#4 ++ lo) e)
    (setReg 2 .b) (setReg 2 .c) (setReg 2 .d) (setReg 2 .e) (setReg 2 .h) (setReg 2 .l) (setAtHl 2)
    (setReg 2 .a) (setReg 3 .b) (setReg 3 .c) (setReg 3 .d) (setReg 3 .e) (setReg 3 .h) (setReg 3 .l)
    (setAtHl 3) (setReg 3 .a)
  have hE : ∀ lo, P (14#4 ++ lo) (cbRowE lo) := pick16_all (P := fun lo e => P (14#4 ++ lo) e)
    (setReg 4 .b) (setReg 4 .c) (setReg 4 .d) (setReg 4 .e) (setReg 4 .h) (setReg 4 .l) (setAtHl 4)
    (setReg 4 .a) (setReg 5 .b) (setReg 5 .c) (setReg 5 .d) (setReg 5 .e) (setReg 5 .h) (setReg 5 .l)
    (setAtHl 5) (setReg 5 .a)
  have hF : ∀ lo, P (15#4 ++ lo) (cbRowF lo) := pick16_all (P := fun lo e => P (15#4 ++ lo) e)
    (setReg 6 .b) (setReg 6 .c) (setReg 6 .d) (setReg 6 .e) (setReg 6 .h) (setReg 6 .l) (setAtHl 6)
    (setReg 6 .a) (setReg 7 .b) (setReg 7 .c) (setReg 7 .d) (setReg 7 .e) (setReg 7 .h) (setReg 7 .l)
    (setAtHl 7) (setReg 7 .a)
  have h := pick16_all (P := fun hi e => P (hi ++ loNibble op) e)
    (h0 _) (h1 _) (h2 _) (h3 _) (h4 _) (h5 _) (h6 _) (h7 _) (h8 _) (h9 _) (hA _) (hB _) (hC _) (hD _) (hE _) (hF _) (hiNibble op)
  rwa [nibbles] at h

/-- A property of every entry of the primary map (R163), shown family by family. -/
theorem primaryEntry_families {P : Byte → Entry → Prop}
    (nop : P 0x00 (.one .nop))
    (ldPairImm : ∀ (p : Pair), P (patP 0b00 (pairField p) 0b0 0b001) (.imm16 (.ldPairImm p)))
    (ldAtBcA : P 0x02 (.one .ldAtBcA))
    (incPair : ∀ (p : Pair), P (patP 0b00 (pairField p) 0b0 0b011) (.one (.incPair p)))
    (incReg : ∀ (r : Reg8), P (pat 0b00 (regField r) 0b100) (.one (.incReg r)))
    (decReg : ∀ (r : Reg8), P (pat 0b00 (regField r) 0b101) (.one (.decReg r)))
    (ldImm : ∀ (r : Reg8), P (pat 0b00 (regField r) 0b110) (.imm8 (.ldImm r)))
    (rlca : P 0x07 (.one .rlca))
    (ldAtAddrSp : P 0x08 (.imm16 .ldAtAddrSp))
    (addHlPair : ∀ (p : Pair), P (patP 0b00 (pairField p) 0b1 0b001) (.one (.addHlPair p)))
    (ldAAtBc : P 0x0A (.one .ldAAtBc))
    (decPair : ∀ (p : Pair), P (patP 0b00 (pairField p) 0b1 0b011) (.one (.decPair p)))
    (rrca : P 0x0F (.one .rrca))
    (stop : P 0x10 (.skip .stop))
    (ldAtDeA : P 0x12 (.one .ldAtDeA))
    (rla : P 0x17 (.one .rla))
    (jr : P 0x18 (.imm8 .jr))
    (ldAAtDe : P 0x1A (.one .ldAAtDe))
    (rra : P 0x1F (.one .rra))
    (jrCond : ∀ (cc : Cond), P (patC 0b001 (condField cc) 0b000) (.imm8 (.jrCond cc)))
    (ldAtHlIncA : P 0x22 (.one .ldAtHlIncA))
    (daa : P 0x27 (.one .daa))
    (ldAAtHlInc : P 0x2A (.one .ldAAtHlInc))
    (cpl : P 0x2F (.one .cpl))
    (ldAtHlDecA : P 0x32 (.one .ldAtHlDecA))
    (incAtHl : P 0x34 (.one .incAtHl))
    (decAtHl : P 0x35 (.one .decAtHl))
    (ldAtHlImm : P 0x36 (.imm8 .ldAtHlImm))
    (scf : P 0x37 (.one .scf))
    (ldAAtHlDec : P 0x3A (.one .ldAAtHlDec))
    (ccf : P 0x3F (.one .ccf))
    (ldReg : ∀ (r : Reg8) (q : Reg8), P (pat 0b01 (regField r) (regField q)) (.one (.ldReg r q)))
    (ldRegAtHl : ∀ (r : Reg8), P (pat 0b01 (regField r) 0b110) (.one (.ldRegAtHl r)))
    (ldAtHlReg : ∀ (r : Reg8), P (pat 0b01 0b110 (regField r)) (.one (.ldAtHlReg r)))
    (halt : P 0x76 (.one .halt))
    (aluReg : ∀ (op : AluOp) (r : Reg8), P (pat 0b10 (aluField op) (regField r)) (.one (.aluReg op r)))
    (aluAtHl : ∀ (op : AluOp), P (pat 0b10 (aluField op) 0b110) (.one (.aluAtHl op)))
    (retCond : ∀ (cc : Cond), P (patC 0b110 (condField cc) 0b000) (.one (.retCond cc)))
    (pop : ∀ (p : StackPair), P (patP 0b11 (stackPairField p) 0b0 0b001) (.one (.pop p)))
    (jpCond : ∀ (cc : Cond), P (patC 0b110 (condField cc) 0b010) (.imm16 (.jpCond cc)))
    (jp : P 0xC3 (.imm16 .jp))
    (callCond : ∀ (cc : Cond), P (patC 0b110 (condField cc) 0b100) (.imm16 (.callCond cc)))
    (push : ∀ (p : StackPair), P (patP 0b11 (stackPairField p) 0b0 0b101) (.one (.push p)))
    (aluImm : ∀ (op : AluOp), P (pat 0b11 (aluField op) 0b110) (.imm8 (.aluImm op)))
    (rst : ∀ (k : Fin 8), P (pat 0b11 (indexField k) 0b111) (.one (.rst k)))
    (ret : P 0xC9 (.one .ret))
    (prefixCb : P 0xCB .cb)
    (call : P 0xCD (.imm16 .call))
    (unassigned : ∀ (k : Fin 11), P (unassignedOpcodes.getD k.val 0) (.one (.unassigned k)))
    (reti : P 0xD9 (.one .reti))
    (ldhAtOffA : P 0xE0 (.imm8 .ldhAtOffA))
    (ldAtCA : P 0xE2 (.one .ldAtCA))
    (addSpImm : P 0xE8 (.imm8 .addSpImm))
    (jpHl : P 0xE9 (.one .jpHl))
    (ldAtAddrA : P 0xEA (.imm16 .ldAtAddrA))
    (ldhAAtOff : P 0xF0 (.imm8 .ldhAAtOff))
    (ldAAtC : P 0xF2 (.one .ldAAtC))
    (di : P 0xF3 (.one .di))
    (ldHlSpImm : P 0xF8 (.imm8 .ldHlSpImm))
    (ldSpHl : P 0xF9 (.one .ldSpHl))
    (ldAAtAddr : P 0xFA (.imm16 .ldAAtAddr))
    (ei : P 0xFB (.one .ei))
    (op : Byte) : P op (primaryEntry op) := by
  have h0 : ∀ lo, P (0#4 ++ lo) (primaryRow0 lo) := pick16_all (P := fun lo e => P (0#4 ++ lo) e)
    nop (ldPairImm .bc) ldAtBcA (incPair .bc) (incReg .b) (decReg .b) (ldImm .b) rlca ldAtAddrSp (addHlPair .bc)
    ldAAtBc (decPair .bc) (incReg .c) (decReg .c) (ldImm .c) rrca
  have h1 : ∀ lo, P (1#4 ++ lo) (primaryRow1 lo) := pick16_all (P := fun lo e => P (1#4 ++ lo) e)
    stop (ldPairImm .de) ldAtDeA (incPair .de) (incReg .d) (decReg .d) (ldImm .d) rla jr (addHlPair .de) ldAAtDe
    (decPair .de) (incReg .e) (decReg .e) (ldImm .e) rra
  have h2 : ∀ lo, P (2#4 ++ lo) (primaryRow2 lo) := pick16_all (P := fun lo e => P (2#4 ++ lo) e)
    (jrCond .nz) (ldPairImm .hl) ldAtHlIncA (incPair .hl) (incReg .h) (decReg .h) (ldImm .h) daa (jrCond .z)
    (addHlPair .hl) ldAAtHlInc (decPair .hl) (incReg .l) (decReg .l) (ldImm .l) cpl
  have h3 : ∀ lo, P (3#4 ++ lo) (primaryRow3 lo) := pick16_all (P := fun lo e => P (3#4 ++ lo) e)
    (jrCond .nc) (ldPairImm .sp) ldAtHlDecA (incPair .sp) incAtHl decAtHl ldAtHlImm scf (jrCond .c)
    (addHlPair .sp) ldAAtHlDec (decPair .sp) (incReg .a) (decReg .a) (ldImm .a) ccf
  have h4 : ∀ lo, P (4#4 ++ lo) (primaryRow4 lo) := pick16_all (P := fun lo e => P (4#4 ++ lo) e)
    (ldReg .b .b) (ldReg .b .c) (ldReg .b .d) (ldReg .b .e) (ldReg .b .h) (ldReg .b .l) (ldRegAtHl .b)
    (ldReg .b .a) (ldReg .c .b) (ldReg .c .c) (ldReg .c .d) (ldReg .c .e) (ldReg .c .h) (ldReg .c .l)
    (ldRegAtHl .c) (ldReg .c .a)
  have h5 : ∀ lo, P (5#4 ++ lo) (primaryRow5 lo) := pick16_all (P := fun lo e => P (5#4 ++ lo) e)
    (ldReg .d .b) (ldReg .d .c) (ldReg .d .d) (ldReg .d .e) (ldReg .d .h) (ldReg .d .l) (ldRegAtHl .d)
    (ldReg .d .a) (ldReg .e .b) (ldReg .e .c) (ldReg .e .d) (ldReg .e .e) (ldReg .e .h) (ldReg .e .l)
    (ldRegAtHl .e) (ldReg .e .a)
  have h6 : ∀ lo, P (6#4 ++ lo) (primaryRow6 lo) := pick16_all (P := fun lo e => P (6#4 ++ lo) e)
    (ldReg .h .b) (ldReg .h .c) (ldReg .h .d) (ldReg .h .e) (ldReg .h .h) (ldReg .h .l) (ldRegAtHl .h)
    (ldReg .h .a) (ldReg .l .b) (ldReg .l .c) (ldReg .l .d) (ldReg .l .e) (ldReg .l .h) (ldReg .l .l)
    (ldRegAtHl .l) (ldReg .l .a)
  have h7 : ∀ lo, P (7#4 ++ lo) (primaryRow7 lo) := pick16_all (P := fun lo e => P (7#4 ++ lo) e)
    (ldAtHlReg .b) (ldAtHlReg .c) (ldAtHlReg .d) (ldAtHlReg .e) (ldAtHlReg .h) (ldAtHlReg .l) halt
    (ldAtHlReg .a) (ldReg .a .b) (ldReg .a .c) (ldReg .a .d) (ldReg .a .e) (ldReg .a .h) (ldReg .a .l)
    (ldRegAtHl .a) (ldReg .a .a)
  have h8 : ∀ lo, P (8#4 ++ lo) (primaryRow8 lo) := pick16_all (P := fun lo e => P (8#4 ++ lo) e)
    (aluReg .add .b) (aluReg .add .c) (aluReg .add .d) (aluReg .add .e) (aluReg .add .h) (aluReg .add .l)
    (aluAtHl .add) (aluReg .add .a) (aluReg .adc .b) (aluReg .adc .c) (aluReg .adc .d) (aluReg .adc .e)
    (aluReg .adc .h) (aluReg .adc .l) (aluAtHl .adc) (aluReg .adc .a)
  have h9 : ∀ lo, P (9#4 ++ lo) (primaryRow9 lo) := pick16_all (P := fun lo e => P (9#4 ++ lo) e)
    (aluReg .sub .b) (aluReg .sub .c) (aluReg .sub .d) (aluReg .sub .e) (aluReg .sub .h) (aluReg .sub .l)
    (aluAtHl .sub) (aluReg .sub .a) (aluReg .sbc .b) (aluReg .sbc .c) (aluReg .sbc .d) (aluReg .sbc .e)
    (aluReg .sbc .h) (aluReg .sbc .l) (aluAtHl .sbc) (aluReg .sbc .a)
  have hA : ∀ lo, P (10#4 ++ lo) (primaryRowA lo) := pick16_all (P := fun lo e => P (10#4 ++ lo) e)
    (aluReg .and .b) (aluReg .and .c) (aluReg .and .d) (aluReg .and .e) (aluReg .and .h) (aluReg .and .l)
    (aluAtHl .and) (aluReg .and .a) (aluReg .xor .b) (aluReg .xor .c) (aluReg .xor .d) (aluReg .xor .e)
    (aluReg .xor .h) (aluReg .xor .l) (aluAtHl .xor) (aluReg .xor .a)
  have hB : ∀ lo, P (11#4 ++ lo) (primaryRowB lo) := pick16_all (P := fun lo e => P (11#4 ++ lo) e)
    (aluReg .or .b) (aluReg .or .c) (aluReg .or .d) (aluReg .or .e) (aluReg .or .h) (aluReg .or .l)
    (aluAtHl .or) (aluReg .or .a) (aluReg .cp .b) (aluReg .cp .c) (aluReg .cp .d) (aluReg .cp .e)
    (aluReg .cp .h) (aluReg .cp .l) (aluAtHl .cp) (aluReg .cp .a)
  have hC : ∀ lo, P (12#4 ++ lo) (primaryRowC lo) := pick16_all (P := fun lo e => P (12#4 ++ lo) e)
    (retCond .nz) (pop .bc) (jpCond .nz) jp (callCond .nz) (push .bc) (aluImm .add) (rst 0) (retCond .z) ret
    (jpCond .z) prefixCb (callCond .z) call (aluImm .adc) (rst 1)
  have hD : ∀ lo, P (13#4 ++ lo) (primaryRowD lo) := pick16_all (P := fun lo e => P (13#4 ++ lo) e)
    (retCond .nc) (pop .de) (jpCond .nc) (unassigned 0) (callCond .nc) (push .de) (aluImm .sub) (rst 2)
    (retCond .c) reti (jpCond .c) (unassigned 1) (callCond .c) (unassigned 2) (aluImm .sbc) (rst 3)
  have hE : ∀ lo, P (14#4 ++ lo) (primaryRowE lo) := pick16_all (P := fun lo e => P (14#4 ++ lo) e)
    ldhAtOffA (pop .hl) ldAtCA (unassigned 3) (unassigned 4) (push .hl) (aluImm .and) (rst 4) addSpImm jpHl
    ldAtAddrA (unassigned 5) (unassigned 6) (unassigned 7) (aluImm .xor) (rst 5)
  have hF : ∀ lo, P (15#4 ++ lo) (primaryRowF lo) := pick16_all (P := fun lo e => P (15#4 ++ lo) e)
    ldhAAtOff (pop .af) ldAAtC di (unassigned 8) (push .af) (aluImm .or) (rst 6) ldHlSpImm ldSpHl ldAAtAddr ei
    (unassigned 9) (unassigned 10) (aluImm .cp) (rst 7)
  have h := pick16_all (P := fun hi e => P (hi ++ loNibble op) e)
    (h0 _) (h1 _) (h2 _) (h3 _) (h4 _) (h5 _) (h6 _) (h7 _) (h8 _) (h9 _) (hA _) (hB _) (hC _) (hD _) (hE _) (hF _) (hiNibble op)
  rwa [nibbles] at h

end Sys2Proof.Machine
end

