-- ==== Sys2Proof/Laws/Step.lean ====
section
/-! SUPPORT. What a step can do: the five outcomes of a step boundary (R585), each under the conditions that select it,
an inversion lemma for `Step`, and what a fetch of an instruction and the end of an instruction leave alone. -/

namespace Sys2Proof.Machine

/-! ## The boundary -/

/-- Locked: one Idle. -/
theorem State.boundary_locked (s : State) (h : s.cpu.locked = true) : s.boundary = .finished s.idle := if_pos h

/-- Stopped: nothing. -/
theorem State.boundary_stopped (s : State) (hl : s.cpu.locked = false) (h : s.cpu.stopped = true) :
    s.boundary = .finished s := by
  unfold State.boundary
  rw [if_neg (by rw [hl]; decide), if_pos h]

/-- Halted with nothing pending: one Idle. -/
theorem State.boundary_halted (s : State) (hl : s.cpu.locked = false) (hs : s.cpu.stopped = false)
    (h : s.cpu.halted = true ∧ s.cpu.pending = 0) : s.boundary = .finished s.idle := by
  unfold State.boundary
  rw [if_neg (by rw [hl]; decide), if_neg (by rw [hs]; decide), if_pos h]

/-- Enabled and pending: a dispatch. -/
theorem State.boundary_dispatch (s : State) (hl : s.cpu.locked = false) (hs : s.cpu.stopped = false)
    (h : s.cpu.ime = true ∧ s.cpu.pending ≠ 0) : s.boundary = .finished s.wake.takeInterrupt := by
  unfold State.boundary
  rw [if_neg (by rw [hl]; decide), if_neg (by rw [hs]; decide), if_neg (fun hh => h.2 hh.2), if_pos h]

/-- Otherwise: an instruction. -/
theorem State.boundary_run (s : State) (hl : s.cpu.locked = false) (hs : s.cpu.stopped = false)
    (hh : ¬ (s.cpu.halted = true ∧ s.cpu.pending = 0)) (hd : ¬ (s.cpu.ime = true ∧ s.cpu.pending ≠ 0)) :
    s.boundary = .run s.wake := by
  unfold State.boundary
  rw [if_neg (by rw [hl]; decide), if_neg (by rw [hs]; decide), if_neg hh, if_neg hd]

/-- A Step whose boundary ends it. -/
theorem State.specStep_finished (s t : State) (h : s.boundary = .finished t) : s.specStep = .next t := by
  unfold State.specStep
  rw [h]

/-- A Step whose boundary runs an instruction. -/
theorem State.specStep_instr (s t : State) (h : s.boundary = .run t) : s.specStep = t.runInstr := by
  unfold State.specStep
  rw [h]

/-- The wake changes nothing in a core that is not halted. -/
theorem State.wake_of_not_halted (s : State) (h : s.cpu.halted = false) : s.wake = s := by
  obtain ⟨m, c, p⟩ := s
  obtain ⟨a, f, b, c, d, e, h', l, sp, pc, ime, lat, hal⟩ := c
  simp only at h
  subst h
  rfl

/-- Everything a Step can be: an Idle, nothing, a dispatch, or an instruction. -/
theorem State.specStep_cases (s : State) :
    (s.specStep = .next s.idle ∧ (s.cpu.locked = true ∨
      (s.cpu.stopped = false ∧ s.cpu.halted = true ∧ s.cpu.pending = 0))) ∨
    (s.specStep = .next s ∧ s.cpu.locked = false ∧ s.cpu.stopped = true) ∨
    (s.specStep = .next s.wake.takeInterrupt ∧ s.cpu.locked = false ∧ s.cpu.stopped = false ∧
      s.cpu.ime = true ∧ s.cpu.pending ≠ 0) ∨
    (s.specStep = s.wake.runInstr ∧ s.cpu.locked = false ∧ s.cpu.stopped = false ∧
      ¬ (s.cpu.halted = true ∧ s.cpu.pending = 0) ∧ ¬ (s.cpu.ime = true ∧ s.cpu.pending ≠ 0)) := by
  by_cases hl : s.cpu.locked = true
  · exact .inl ⟨s.specStep_finished _ (s.boundary_locked hl), .inl hl⟩
  rw [Bool.not_eq_true] at hl
  by_cases hs : s.cpu.stopped = true
  · exact .inr (.inl ⟨s.specStep_finished _ (s.boundary_stopped hl hs), hl, hs⟩)
  rw [Bool.not_eq_true] at hs
  by_cases hh : s.cpu.halted = true ∧ s.cpu.pending = 0
  · exact .inl ⟨s.specStep_finished _ (s.boundary_halted hl hs hh), .inr ⟨hs, hh⟩⟩
  by_cases hd : s.cpu.ime = true ∧ s.cpu.pending ≠ 0
  · exact .inr (.inr (.inl ⟨s.specStep_finished _ (s.boundary_dispatch hl hs hd), hl, hs, hd⟩))
  exact .inr (.inr (.inr ⟨s.specStep_instr _ (s.boundary_run hl hs hh hd), hl, hs, hh, hd⟩))

/-- A run of one step more starts with that step. -/
theorem core_run_succ (m : Host.Core) (k : Nat) (s t : m.State) (h : m.step s = .next t) :
    m.run (k + 1) s = m.run k t := by
  simp only [Host.Core.run, h]

/-! ## Fetching -/

/-- The opcode fetch: one read at PC; it changes no general register, and clears the halt bug. -/
@[simp] theorem State.fetchOpcode_keeps (s : State) :
    s.fetchOpcode.1 = s.read s.cpu.pc ∧ s.fetchOpcode.2.cpu.haltBug = false ∧
    s.fetchOpcode.2.cpu.pc = (if s.cpu.haltBug then s.cpu.pc else s.cpu.pc + 1) ∧
    s.fetchOpcode.2.cpu.cycles = s.cpu.cycles + 4 ∧
    s.fetchOpcode.2.platform.trace = .access s.cpu.pc (s.read s.cpu.pc) .read :: s.platform.trace ∧
    s.fetchOpcode.2.cpu.a = s.cpu.a ∧ s.fetchOpcode.2.cpu.f = s.cpu.f ∧ s.fetchOpcode.2.cpu.b = s.cpu.b ∧
    s.fetchOpcode.2.cpu.c = s.cpu.c ∧ s.fetchOpcode.2.cpu.d = s.cpu.d ∧ s.fetchOpcode.2.cpu.e = s.cpu.e ∧
    s.fetchOpcode.2.cpu.h = s.cpu.h ∧ s.fetchOpcode.2.cpu.l = s.cpu.l ∧ s.fetchOpcode.2.cpu.sp = s.cpu.sp ∧
    s.fetchOpcode.2.cpu.ime = s.cpu.ime ∧ s.fetchOpcode.2.cpu.imeLatch = s.cpu.imeLatch ∧
    s.fetchOpcode.2.cpu.halted = s.cpu.halted ∧ s.fetchOpcode.2.cpu.stopped = s.cpu.stopped ∧
    s.fetchOpcode.2.cpu.locked = s.cpu.locked ∧ s.fetchOpcode.2.cpu.key1Speed = s.cpu.key1Speed ∧
    s.fetchOpcode.2.model = s.model ∧ s.fetchOpcode.2.platform.host = s.platform.host := by
  unfold State.fetchOpcode
  cases h : s.cpu.haltBug <;> simp [h]

/-- What follows the opcode fetch, by the primary map's entry (R150). -/
def State.fetchRest (t : State) : Entry → Instr × State
  | .one i => (i, t)
  | .skip i => (i, t)
  | .imm8 f => (f t.fetch8.1, t.fetch8.2)
  | .imm16 f => (f t.fetch16.1, t.fetch16.2)
  | .cb => (cbEntry t.fetch8.1, t.fetch8.2)

/-- The whole fetch is the opcode fetch and what its entry asks for. -/
theorem State.fetchInstr_eq (s : State) :
    s.fetchInstr = s.fetchOpcode.2.fetchRest (primaryEntry s.fetchOpcode.1) := by
  unfold State.fetchInstr State.fetchRest
  rfl

/-! ## The end of an instruction -/

/-- The EI promotion changes IME and the latch only. -/
theorem State.promote_keeps (s : State) (latch : Bool) :
    s.promote latch = { s with cpu := { s.cpu with
      ime := s.cpu.ime || (latch && s.cpu.imeLatch), imeLatch := s.cpu.imeLatch && !latch } } := by
  obtain ⟨m, c, p⟩ := s
  obtain ⟨a, f, b, c, d, e, h, l, sp, pc, ime, lat⟩ := c
  cases latch <;> cases lat <;> simp [State.promote, State.onCpu]

/-- A meaning that answers a next state ends in its promotion. -/
theorem endInstruction_next (latch : Bool) (r : Result) (t : State) :
    endInstruction latch r = .next t ↔ ∃ u, r = .next u ∧ t = u.promote latch := by
  cases r <;> simp [endInstruction, eq_comm]

end Sys2Proof.Machine
end

