-- ==== Sys2Proof/Laws/Bus.lean ====
section
/-! SUPPORT. The bus account of every entry of the opcode maps (R588, R594): which M-cycles the fetches after the
opcode and the meaning add to the trace, and how long they take. -/

namespace Sys2Proof.Machine

open Sys2Proof.Certificates

/-- A write of the four flags makes them what the exact conditions say (R42, R43). -/
theorem flagsAre_setFlags (c : Cpu) {z n h cy : Bool} {Z N H C : Prop} (hz : z = true ↔ Z) (hn : n = true ↔ N)
    (hh : h = true ↔ H) (hc : cy = true ↔ C) : FlagsAre (c.setFlags z n h cy) Z N H C := by
  have bits : ∀ z n h cy, (packFlags z n h cy).getLsbD 7 = z ∧ (packFlags z n h cy).getLsbD 6 = n ∧
      (packFlags z n h cy).getLsbD 5 = h ∧ (packFlags z n h cy).getLsbD 4 = cy ∧
      packFlags z n h cy &&& 0x0F = 0 := by decide
  obtain ⟨k7, k6, k5, k4, k0⟩ := bits z n h cy
  exact ⟨by rw [← hz]; exact iff_of_eq (congrArg (· = true) k7), by rw [← hn]; exact iff_of_eq (congrArg (· = true) k6),
    by rw [← hh]; exact iff_of_eq (congrArg (· = true) k5), by rw [← hc]; exact iff_of_eq (congrArg (· = true) k4), k0⟩

/-- The bus sequence of an opcode, from the machine after its opcode fetch. -/
def seqFrom (op : Byte) (t : State) : List BusLetter :=
  if op = 0xCB then cbSequence t.fetch8.1 else (primarySequence op).pick (t.cpu.cond (condOfOpcode op))

/-- The M-cycles of an opcode (R594), from the machine after its opcode fetch. -/
def timeFrom (op : Byte) (t : State) : Nat :=
  if op = 0xCB then cbTiming t.fetch8.1
  else if t.cpu.cond (condOfOpcode op) then (timingTable op).1
  else (timingTable op).2

/-- The trace `tr` is `l` with M-cycles of which `p` holds on top. -/
def Added (l tr : List MCycle) (p : List MCycle → Prop) : Prop := ∃ top, tr = top ++ l ∧ p top

theorem added0 {l : List MCycle} {p : List MCycle → Prop} (h : p []) :
    Added l (l) p := ⟨_, rfl, h⟩

theorem added1 {l : List MCycle} {p : List MCycle → Prop} {x0 : MCycle} (h : p [x0]) :
    Added l (x0 :: l) p := ⟨_, rfl, h⟩

theorem added2 {l : List MCycle} {p : List MCycle → Prop} {x0 x1 : MCycle} (h : p [x0, x1]) :
    Added l (x0 :: x1 :: l) p := ⟨_, rfl, h⟩

theorem added3 {l : List MCycle} {p : List MCycle → Prop} {x0 x1 x2 : MCycle} (h : p [x0, x1, x2]) :
    Added l (x0 :: x1 :: x2 :: l) p := ⟨_, rfl, h⟩

theorem added4 {l : List MCycle} {p : List MCycle → Prop} {x0 x1 x2 x3 : MCycle} (h : p [x0, x1, x2, x3]) :
    Added l (x0 :: x1 :: x2 :: x3 :: l) p := ⟨_, rfl, h⟩

theorem added5 {l : List MCycle} {p : List MCycle → Prop} {x0 x1 x2 x3 x4 : MCycle} (h : p [x0, x1, x2, x3, x4]) :
    Added l (x0 :: x1 :: x2 :: x3 :: x4 :: l) p := ⟨_, rfl, h⟩

/-- The account of a primary entry: after the opcode fetch (an access `a`, `v`), the trace grows by the rest of the
opcode's sequence, at 4 T-cycles a piece. -/
def EntryAccount (op : Byte) (e : Entry) : Prop :=
  ∀ (t u : State) (a : Word) (v : Byte), exec (t.fetchRest e).1 (t.fetchRest e).2 = .next u →
    Added t.platform.trace u.platform.trace
      (fun top => fitsSequence (seqFrom op t) (.access a v .read :: top.reverse) = true) ∧
    u.cpu.cycles + 4 = t.cpu.cycles + 4 * timeFrom op t

/-- The account of a CB entry, after its two fetches. -/
def CbAccount (op2 : Byte) (i : Instr) : Prop :=
  ∀ (t u : State) (a b : Word) (v w : Byte), exec i t = .next u →
    Added t.platform.trace u.platform.trace
      (fun top => fitsSequence (cbSequence op2) (.access a v .read :: .access b w .read :: top.reverse) = true) ∧
    u.cpu.cycles + 8 = t.cpu.cycles + 4 * cbTiming op2

theorem cond_congr (c c' : Cpu) (cc : Cond) (h : c'.f = c.f) : c'.cond cc = c.cond cc := by
  cases cc <;> simp [Cpu.cond, Cpu.flagZ, Cpu.flagC, h]

theorem time_ok (c n : Nat) (op : Byte) (t : State) (h1 : op ≠ 0xCB) (h2 : (timingTable op).2 = (timingTable op).1)
    (h3 : n + 4 = c + 4 * (timingTable op).1) : n + 4 = c + 4 * timeFrom op t := by
  unfold timeFrom
  rw [if_neg h1, h2]
  simpa using h3

/-- Every CB entry (R588). -/
theorem cb_account (op2 : Byte) : CbAccount op2 (cbEntry op2) := by
  apply cbEntry_families (P := CbAccount)
  case shiftReg =>
    intro x y t u a b v w h
    simp only [exec_shiftReg, shiftRegister, Host.Outcome.next.injEq] at h
    subst h
    constructor
    · try simp only [State.onCpu_fields]
      exact added0 (by cases x <;> cases y <;> rfl)
    · try simp only [State.onCpu_fields, Cpu.putR8_fields]
      cases x <;> cases y <;> rfl
  case shiftAtHl =>
    intro x t u a b v w h
    simp only [exec_shiftAtHl, updateMemory, shiftMemory, Host.Outcome.next.injEq] at h
    subst h
    constructor
    · try simp only [State.onCpu_fields, State.afterRead_keeps, State.write_keeps]
      first | exact added0 (by cases x <;> rfl) |
        exact added1 (by cases x <;> rfl) |
        exact added2 (by cases x <;> rfl)
    · try simp only [State.onCpu_fields, State.afterRead_keeps, State.write_keeps, Cpu.putFlags_fields]
      cases x <;> rfl
  case bitReg | resReg | setReg =>
    intro x y t u a b v w h
    simp only [exec_bitReg, exec_resReg, exec_setReg, testRegister, changeRegister, Host.Outcome.next.injEq] at h
    subst h
    constructor
    · try simp only [State.onCpu_fields]
      exact added0 (by fin_cases x <;> cases y <;> rfl)
    · try simp only [State.onCpu_fields, Cpu.testBit_fields, Cpu.setR8_fields]
      fin_cases x <;> cases y <;> rfl
  case bitAtHl | resAtHl | setAtHl =>
    intro x t u a b v w h
    simp only [exec_bitAtHl, exec_resAtHl, exec_setAtHl, testMemory, changeMemory, Host.Outcome.next.injEq] at h
    subst h
    constructor
    · try simp only [State.onCpu_fields, State.afterRead_keeps, State.write_keeps]
      first | exact added0 (by fin_cases x <;> rfl) |
        exact added1 (by fin_cases x <;> rfl) |
        exact added2 (by fin_cases x <;> rfl)
    · try simp only [State.onCpu_fields, State.afterRead_keeps, State.write_keeps, Cpu.testBit_fields]
      fin_cases x <;> rfl

/-- Every primary entry (R588, R594). -/
theorem entry_account (op : Byte) : EntryAccount op (primaryEntry op) := by
  apply primaryEntry_families (P := EntryAccount)
  case nop | ldAtBcA | rlca | ldAtAddrSp | ldAAtBc | rrca | ldAtDeA | rla | jr | ldAAtDe | rra | ldAtHlIncA |
    daa | ldAAtHlInc | cpl | ldAtHlDecA | incAtHl | decAtHl | ldAtHlImm | scf | ldAAtHlDec | ccf | jp | ret
    | call | reti | ldhAtOffA | ldAtCA | addSpImm | jpHl | ldAtAddrA | ldhAAtOff | ldAAtC | di | ldHlSpImm |
    ldSpHl | ldAAtAddr | ei =>
    intro t u a v h
    simp only [exec_ldAtAddrSp, exec_jr, exec_ldAtHlImm, exec_jp, exec_call, exec_ldhAtOffA, exec_addSpImm,
        exec_ldAtAddrA, exec_ldhAAtOff, exec_ldHlSpImm, exec_ldAAtAddr, exec_nop, exec_ldAtBcA,
        exec_rlca, exec_ldAAtBc, exec_rrca, exec_ldAtDeA, exec_rla, exec_ldAAtDe, exec_rra,
        exec_ldAtHlIncA, exec_daa, exec_ldAAtHlInc, exec_cpl, exec_ldAtHlDecA, exec_incAtHl,
        exec_decAtHl, exec_scf, exec_ldAAtHlDec, exec_ccf, exec_ret, exec_reti, exec_ldAtCA,
        exec_jpHl, exec_ldAAtC, exec_di, exec_ldSpHl, exec_ei, loadFrom, storeTo, storeAStep,
        loadAStep, storeSp, loadSpFromHl, loadHlSpOffset, updateMemory, addToSp, rotateA, jump,
        jumpToHl, jumpRelative, callTo, returnPlain, execReti, State.returnFromInterrupt, execDaa,
        execCpl, execScf, execCcf, execDi, execEi, State.fetchRest, State.fetch16,
        Host.Outcome.next.injEq] at h
    subst h
    constructor
    · try simp only [State.onCpu_fields, State.setPc_fields, State.setSp_fields, State.afterRead_keeps,
        State.write_keeps, State.idle_keeps, State.push16_keeps, State.pop16_keeps, State.fetch8_keeps]
      first | exact added0 (by rfl) |
        exact added1 (by rfl) |
        exact added2 (by rfl) |
        exact added3 (by rfl) |
        exact added4 (by rfl) |
        exact added5 (by rfl)
    · try simp only [State.onCpu_fields, State.setPc_fields, State.setSp_fields, State.afterRead_keeps,
        State.write_keeps, State.idle_keeps, State.push16_keeps, State.pop16_keeps,
        State.fetch8_keeps, Cpu.putR8_fields, Cpu.putFlags_fields, Cpu.setR8_fields,
        Cpu.setFlags_fields, Cpu.setHl_fields]
      exact time_ok _ _ _ _ (by decide) (by rfl) (by rfl)
  case ldPairImm | incPair | incReg | decReg | ldImm | addHlPair | decPair | ldRegAtHl | ldAtHlReg | aluAtHl |
    pop | push | aluImm =>
    intro x t u a v h
    simp only [exec_ldImm, exec_ldRegAtHl, exec_ldAtHlReg, exec_ldPairImm, exec_push, exec_pop, exec_aluAtHl,
        exec_aluImm, exec_incReg, exec_decReg, exec_addHlPair, exec_incPair, exec_decPair, loadImm,
        loadFrom, storeTo, loadPair, pushPair, popPair, aluMemory, aluImmediate, incRegister,
        decRegister, addToHl, stepPair, State.fetchRest, State.fetch16, Host.Outcome.next.injEq] at h
    subst h
    constructor
    · try simp only [State.onCpu_fields, State.afterRead_keeps, State.write_keeps, State.idle_keeps,
        State.push16_keeps, State.pop16_keeps, State.fetch8_keeps]
      first | exact added0 (by cases x <;> rfl) |
        exact added1 (by cases x <;> rfl) |
        exact added2 (by cases x <;> rfl) |
        exact added3 (by cases x <;> rfl)
    · try simp only [State.onCpu_fields, State.afterRead_keeps, State.write_keeps, State.idle_keeps,
        State.push16_keeps, State.pop16_keeps, State.fetch8_keeps, Cpu.putR8_fields, Cpu.setR8_fields,
        Cpu.alu_fields, Cpu.setPair_fields, Cpu.setStackPair_fields, Cpu.setFlags_fields,
        Cpu.setHl_fields]
      exact time_ok _ _ _ _ (by cases x <;> decide) (by cases x <;> rfl) (by cases x <;> rfl)
  case ldReg | aluReg =>
    intro x y t u a v h
    simp only [exec_ldReg, exec_aluReg, loadReg, aluRegister, State.fetchRest, Host.Outcome.next.injEq] at h
    subst h
    constructor
    · try simp only [State.onCpu_fields]
      exact added0 (by cases x <;> cases y <;> rfl)
    · try simp only [State.onCpu_fields, Cpu.setR8_fields, Cpu.alu_fields]
      exact time_ok _ _ _ _ (by cases x <;> cases y <;> decide) (by cases x <;> cases y <;> rfl) (by cases x <;> cases y <;> rfl)
  case rst | unassigned =>
    intro x t u a v h
    simp only [exec_rst, exec_unassigned, callTo, lockUp, State.fetchRest, Host.Outcome.next.injEq] at h
    subst h
    constructor
    · try simp only [State.setPc_fields, State.lock_fields, State.idle_keeps, State.push16_keeps]
      first | exact added0 (by fin_cases x <;> rfl) |
        exact added1 (by fin_cases x <;> rfl) |
        exact added2 (by fin_cases x <;> rfl) |
        exact added3 (by fin_cases x <;> rfl)
    · try simp only [State.setPc_fields, State.lock_fields, State.idle_keeps, State.push16_keeps]
      exact time_ok _ _ _ _ (by fin_cases x <;> decide) (by fin_cases x <;> rfl) (by fin_cases x <;> rfl)
  case stop =>
    intro t u a v h
    simp only [exec_stop, execStop, State.fetchRest] at h
    split at h <;> simp only [Host.Outcome.next.injEq] at h <;> subst h <;>
      exact ⟨added0 rfl, time_ok _ _ _ _ (by decide) rfl rfl⟩
  case halt =>
    intro t u a v h
    simp only [exec_halt, execHalt, State.fetchRest, Host.Outcome.next.injEq] at h
    subst h
    refine ⟨added0 rfl, time_ok _ _ _ _ (by decide) rfl ?_⟩
    simp only [State.onCpu]
    split <;> rfl
  case prefixCb =>
    intro t u a v h
    obtain ⟨⟨top, h1, h2⟩, h3⟩ := cb_account t.fetch8.1 t.fetch8.2 u a t.cpu.pc v t.fetch8.1 h
    have ht : t.fetch8.2.platform.trace = .access t.cpu.pc t.fetch8.1 .read :: t.platform.trace := by simp
    refine ⟨⟨top ++ [.access t.cpu.pc t.fetch8.1 .read], by rw [h1, ht]; simp, ?_⟩, ?_⟩
    · simpa [seqFrom] using h2
    · simp at h3
      simp [timeFrom]
      omega
  case jrCond =>
    intro cc t u a v h
    have e : condOfOpcode (patC 0b001 (condField cc) 0b000) = cc := by cases cc <;> rfl
    have n : (patC 0b001 (condField cc) 0b000 : Byte) ≠ 0xCB := by cases cc <;> decide
    simp only [exec_jrCond, jumpRelativeIf, jumpRelative, State.fetchRest] at h
    unfold seqFrom timeFrom
    rw [if_neg n, if_neg n, e]
    split at h <;> rename_i hc <;> simp only [Host.Outcome.next.injEq] at h <;> subst h
    all_goals
      rw [cond_congr t.cpu _ cc (by simp)] at hc
      try simp only [Bool.not_eq_true] at hc
      rw [hc]
      try simp only [State.setPc_fields, State.idle_keeps, State.fetch8_keeps]
      refine ⟨?_, by cases cc <;> rfl⟩
      first | exact added0 (by cases cc <;> rfl) |
        exact added1 (by cases cc <;> rfl) |
        exact added2 (by cases cc <;> rfl)
  case retCond =>
    intro cc t u a v h
    have e : condOfOpcode (patC 0b110 (condField cc) 0b000) = cc := by cases cc <;> rfl
    have n : (patC 0b110 (condField cc) 0b000 : Byte) ≠ 0xCB := by cases cc <;> decide
    simp only [exec_retCond, returnIf, returnPlain, State.fetchRest] at h
    unfold seqFrom timeFrom
    rw [if_neg n, if_neg n, e]
    split at h <;> rename_i hc <;> simp only [Host.Outcome.next.injEq] at h <;> subst h
    all_goals
      rw [cond_congr t.cpu _ cc (by simp)] at hc
      try simp only [Bool.not_eq_true] at hc
      rw [hc]
      try simp only [State.setPc_fields, State.idle_keeps, State.pop16_keeps]
      refine ⟨?_, by cases cc <;> rfl⟩
      first | exact added0 (by cases cc <;> rfl) |
        exact added1 (by cases cc <;> rfl) |
        exact added2 (by cases cc <;> rfl) |
        exact added3 (by cases cc <;> rfl) |
        exact added4 (by cases cc <;> rfl)
  case jpCond =>
    intro cc t u a v h
    have e : condOfOpcode (patC 0b110 (condField cc) 0b010) = cc := by cases cc <;> rfl
    have n : (patC 0b110 (condField cc) 0b010 : Byte) ≠ 0xCB := by cases cc <;> decide
    simp only [exec_jpCond, jumpIf, jump, State.fetchRest, State.fetch16] at h
    unfold seqFrom timeFrom
    rw [if_neg n, if_neg n, e]
    split at h <;> rename_i hc <;> simp only [Host.Outcome.next.injEq] at h <;> subst h
    all_goals
      rw [cond_congr t.cpu _ cc (by simp)] at hc
      try simp only [Bool.not_eq_true] at hc
      rw [hc]
      try simp only [State.setPc_fields, State.idle_keeps, State.fetch8_keeps]
      refine ⟨?_, by cases cc <;> rfl⟩
      first | exact added0 (by cases cc <;> rfl) |
        exact added1 (by cases cc <;> rfl) |
        exact added2 (by cases cc <;> rfl) |
        exact added3 (by cases cc <;> rfl)
  case callCond =>
    intro cc t u a v h
    have e : condOfOpcode (patC 0b110 (condField cc) 0b100) = cc := by cases cc <;> rfl
    have n : (patC 0b110 (condField cc) 0b100 : Byte) ≠ 0xCB := by cases cc <;> decide
    simp only [exec_callCond, callIf, callTo, State.fetchRest, State.fetch16] at h
    unfold seqFrom timeFrom
    rw [if_neg n, if_neg n, e]
    split at h <;> rename_i hc <;> simp only [Host.Outcome.next.injEq] at h <;> subst h
    all_goals
      rw [cond_congr t.cpu _ cc (by simp)] at hc
      try simp only [Bool.not_eq_true] at hc
      rw [hc]
      try simp only [State.setPc_fields, State.idle_keeps, State.push16_keeps, State.fetch8_keeps]
      refine ⟨?_, by cases cc <;> rfl⟩
      first | exact added0 (by cases cc <;> rfl) |
        exact added1 (by cases cc <;> rfl) |
        exact added2 (by cases cc <;> rfl) |
        exact added3 (by cases cc <;> rfl) |
        exact added4 (by cases cc <;> rfl) |
        exact added5 (by cases cc <;> rfl)

/-- The account of the instruction at PC: its M-cycles fit its sequence and take the time of the table. -/
theorem State.runInstr_account (s t : State) (h : s.runInstr = .next t) :
    (∃ cycles, t.platform.trace = cycles.reverse ++ s.platform.trace ∧
      fitsSequence (seqFrom s.fetchOpcode.1 s.fetchOpcode.2) cycles = true) ∧
    t.cpu.cycles = s.cpu.cycles + 4 * timeFrom s.fetchOpcode.1 s.fetchOpcode.2 := by
  rw [State.runInstr, endInstruction_next] at h
  obtain ⟨u, hu, rfl⟩ := h
  rw [State.fetchInstr_eq] at hu
  obtain ⟨⟨top, h1, h2⟩, h3⟩ := entry_account s.fetchOpcode.1 s.fetchOpcode.2 u s.cpu.pc (s.read s.cpu.pc) hu
  rw [State.promote_keeps]
  refine ⟨⟨.access s.cpu.pc (s.read s.cpu.pc) .read :: top.reverse, by rw [h1]; simp, h2⟩, ?_⟩
  have hc : s.fetchOpcode.2.cpu.cycles = s.cpu.cycles + 4 := by simp
  rw [hc] at h3
  simp only
  omega

/-- An instruction spends a sequence where its opcode has that sequence and that time. -/
theorem spendsWhere_of {ahead : State → Prop} {seq : List BusLetter}
    (h : ∀ s, ahead s → seqFrom s.fetchOpcode.1 s.fetchOpcode.2 = seq ∧
      timeFrom s.fetchOpcode.1 s.fetchOpcode.2 = seq.length) : SpendsWhere ahead seq := by
  intro s t ha hr
  obtain ⟨⟨cycles, h1, h2⟩, h3⟩ := s.runInstr_account t hr
  obtain ⟨e1, e2⟩ := h s ha
  exact ⟨cycles, h1, e1 ▸ h2, e2 ▸ h3⟩

/-- A primary opcode with one sequence for all cases spends it. -/
theorem spends_of {op : Byte} {seq : List BusLetter} (hc : op ≠ 0xCB) (hs : primarySequence op = .same seq)
    (ht : timingTable op = (seq.length, seq.length)) : Spends op seq := by
  refine spendsWhere_of fun s e => ?_
  subst e
  unfold seqFrom timeFrom
  rw [if_neg hc, if_neg hc, hs, ht]
  exact ⟨rfl, ite_self _⟩

/-- A conditional opcode spends the sequence of the case that holds. -/
theorem spendsIf_of {op : Byte} {cc : Cond} {taken notTaken : List BusLetter} (hc : op ≠ 0xCB)
    (he : condOfOpcode op = cc) (hs : primarySequence op = .branch taken notTaken)
    (ht : timingTable op = (taken.length, notTaken.length)) : SpendsIf op cc taken notTaken := by
  constructor <;> refine spendsWhere_of fun s e => ?_ <;> obtain ⟨rfl, e⟩ := e <;> unfold seqFrom timeFrom <;>
    rw [if_neg hc, if_neg hc, hs, ht, he, cond_congr s.cpu s.fetchOpcode.2.cpu cc (by simp), e] <;> exact ⟨rfl, rfl⟩

/-- A CB opcode spends its sequence. -/
theorem spendsCb_all (op2 : Byte) : SpendsCb op2 (cbSequence op2) := by
  refine spendsWhere_of fun s e => ?_
  obtain ⟨e1, rfl⟩ := e
  unfold seqFrom timeFrom
  rw [if_pos e1, if_pos e1]
  refine ⟨rfl, ?_⟩
  unfold cbTiming cbSequence
  split
  · rfl
  · split <;> rfl

end Sys2Proof.Machine
end

