-- ==== Sys2Proof/Tests/Slice0.lean ====
section
/-! SUPPORT. The model's own tests: the refusal of the one ill-formed term, every constructor's decoding from the bit
pattern that spec/opcode_table.json gives its row, single steps whose results stand in 95_test_vectors.md (section
numbers below) or in a rule's example, and a state that meets the hypotheses of each obligation that has some. -/

namespace Sys2Proof.Tests

open Sys2Proof Sys2Proof.Machine Sys2Proof.Certificates

/-! ## Well-formedness -/

/-- The bare prefix is not an instruction of its own (R167). -/
theorem test_wellformed_refuses_prefix : WellFormed .prefixCb = false := by decide

theorem test_wellformed_accepts_rest : (WellFormed .nop && WellFormed .stop && WellFormed .swapA &&
    WellFormed (.ldSpImm 0xDFF0) && WellFormed .illegalD3) = true := by decide

/-! ## Decoding

The words are the table's `encoding` column; immediate bytes are 0x34 and, second, 0x12. -/

/-- The bytes decode to the instruction, and nothing is left over. -/
def reads (p : List Byte × Instr) : Bool := decide (decode p.1 = .ok p.2 [])

theorem test_decode_row_0x : ([
  ([0b00000000], .nop), ([0b00000001, 0x34, 0x12], .ldBcImm 0x1234), ([0b00000010], .ldAtBcA), ([0b00000011],
  .incBc), ([0b00000100], .incB), ([0b00000101], .decB), ([0b00000110, 0x34], .ldBImm 0x34), ([0b00000111],
  .rlca), ([0b00001000, 0x34, 0x12], .ldAtAddrSp 0x1234), ([0b00001001], .addHlBc), ([0b00001010], .ldAAtBc),
  ([0b00001011], .decBc), ([0b00001100], .incC), ([0b00001101], .decC), ([0b00001110, 0x34], .ldCImm 0x34),
  ([0b00001111], .rrca)] : List (List Byte × Instr)).all reads = true := by decide

theorem test_decode_row_1x : ([
  ([0b00010000, 0x34], .stop), ([0b00010001, 0x34, 0x12], .ldDeImm 0x1234), ([0b00010010], .ldAtDeA),
  ([0b00010011], .incDe), ([0b00010100], .incD), ([0b00010101], .decD), ([0b00010110, 0x34], .ldDImm 0x34),
  ([0b00010111], .rla), ([0b00011000, 0x34], .jr 0x34), ([0b00011001], .addHlDe), ([0b00011010], .ldAAtDe),
  ([0b00011011], .decDe), ([0b00011100], .incE), ([0b00011101], .decE), ([0b00011110, 0x34], .ldEImm 0x34),
  ([0b00011111], .rra)] : List (List Byte × Instr)).all reads = true := by decide

theorem test_decode_row_2x : ([
  ([0b00100000, 0x34], .jrNz 0x34), ([0b00100001, 0x34, 0x12], .ldHlImm 0x1234), ([0b00100010], .ldAtHlIncA),
  ([0b00100011], .incHl), ([0b00100100], .incH), ([0b00100101], .decH), ([0b00100110, 0x34], .ldHImm 0x34),
  ([0b00100111], .daa), ([0b00101000, 0x34], .jrZ 0x34), ([0b00101001], .addHlHl), ([0b00101010],
  .ldAAtHlInc), ([0b00101011], .decHl), ([0b00101100], .incL), ([0b00101101], .decL), ([0b00101110, 0x34],
  .ldLImm 0x34), ([0b00101111], .cpl)] : List (List Byte × Instr)).all reads = true := by decide

theorem test_decode_row_3x : ([
  ([0b00110000, 0x34], .jrNc 0x34), ([0b00110001, 0x34, 0x12], .ldSpImm 0x1234), ([0b00110010], .ldAtHlDecA),
  ([0b00110011], .incSp), ([0b00110100], .incAtHl), ([0b00110101], .decAtHl), ([0b00110110, 0x34], .ldAtHlImm
  0x34), ([0b00110111], .scf), ([0b00111000, 0x34], .jrC 0x34), ([0b00111001], .addHlSp), ([0b00111010],
  .ldAAtHlDec), ([0b00111011], .decSp), ([0b00111100], .incA), ([0b00111101], .decA), ([0b00111110, 0x34],
  .ldAImm 0x34), ([0b00111111], .ccf)] : List (List Byte × Instr)).all reads = true := by decide

theorem test_decode_row_4x : ([
  ([0b01000000], .ldBB), ([0b01000001], .ldBC), ([0b01000010], .ldBD), ([0b01000011], .ldBE), ([0b01000100],
  .ldBH), ([0b01000101], .ldBL), ([0b01000110], .ldBAtHl), ([0b01000111], .ldBA), ([0b01001000], .ldCB),
  ([0b01001001], .ldCC), ([0b01001010], .ldCD), ([0b01001011], .ldCE), ([0b01001100], .ldCH), ([0b01001101],
  .ldCL), ([0b01001110], .ldCAtHl), ([0b01001111], .ldCA)] : List (List Byte × Instr)).all reads = true := by
  decide

theorem test_decode_row_5x : ([
  ([0b01010000], .ldDB), ([0b01010001], .ldDC), ([0b01010010], .ldDD), ([0b01010011], .ldDE), ([0b01010100],
  .ldDH), ([0b01010101], .ldDL), ([0b01010110], .ldDAtHl), ([0b01010111], .ldDA), ([0b01011000], .ldEB),
  ([0b01011001], .ldEC), ([0b01011010], .ldED), ([0b01011011], .ldEE), ([0b01011100], .ldEH), ([0b01011101],
  .ldEL), ([0b01011110], .ldEAtHl), ([0b01011111], .ldEA)] : List (List Byte × Instr)).all reads = true := by
  decide

theorem test_decode_row_6x : ([
  ([0b01100000], .ldHB), ([0b01100001], .ldHC), ([0b01100010], .ldHD), ([0b01100011], .ldHE), ([0b01100100],
  .ldHH), ([0b01100101], .ldHL), ([0b01100110], .ldHAtHl), ([0b01100111], .ldHA), ([0b01101000], .ldLB),
  ([0b01101001], .ldLC), ([0b01101010], .ldLD), ([0b01101011], .ldLE), ([0b01101100], .ldLH), ([0b01101101],
  .ldLL), ([0b01101110], .ldLAtHl), ([0b01101111], .ldLA)] : List (List Byte × Instr)).all reads = true := by
  decide

theorem test_decode_row_7x : ([
  ([0b01110000], .ldAtHlB), ([0b01110001], .ldAtHlC), ([0b01110010], .ldAtHlD), ([0b01110011], .ldAtHlE),
  ([0b01110100], .ldAtHlH), ([0b01110101], .ldAtHlL), ([0b01110110], .halt), ([0b01110111], .ldAtHlA),
  ([0b01111000], .ldAB), ([0b01111001], .ldAC), ([0b01111010], .ldAD), ([0b01111011], .ldAE), ([0b01111100],
  .ldAH), ([0b01111101], .ldAL), ([0b01111110], .ldAAtHl), ([0b01111111], .ldAA)] : List (List Byte ×
  Instr)).all reads = true := by decide

theorem test_decode_row_8x : ([
  ([0b10000000], .addAB), ([0b10000001], .addAC), ([0b10000010], .addAD), ([0b10000011], .addAE),
  ([0b10000100], .addAH), ([0b10000101], .addAL), ([0b10000110], .addAAtHl), ([0b10000111], .addAA),
  ([0b10001000], .adcAB), ([0b10001001], .adcAC), ([0b10001010], .adcAD), ([0b10001011], .adcAE),
  ([0b10001100], .adcAH), ([0b10001101], .adcAL), ([0b10001110], .adcAAtHl), ([0b10001111], .adcAA)] : List
  (List Byte × Instr)).all reads = true := by decide

theorem test_decode_row_9x : ([
  ([0b10010000], .subB), ([0b10010001], .subC), ([0b10010010], .subD), ([0b10010011], .subE), ([0b10010100],
  .subH), ([0b10010101], .subL), ([0b10010110], .subAtHl), ([0b10010111], .subA), ([0b10011000], .sbcAB),
  ([0b10011001], .sbcAC), ([0b10011010], .sbcAD), ([0b10011011], .sbcAE), ([0b10011100], .sbcAH),
  ([0b10011101], .sbcAL), ([0b10011110], .sbcAAtHl), ([0b10011111], .sbcAA)] : List (List Byte × Instr)).all
  reads = true := by decide

theorem test_decode_row_Ax : ([
  ([0b10100000], .andB), ([0b10100001], .andC), ([0b10100010], .andD), ([0b10100011], .andE), ([0b10100100],
  .andH), ([0b10100101], .andL), ([0b10100110], .andAtHl), ([0b10100111], .andA), ([0b10101000], .xorB),
  ([0b10101001], .xorC), ([0b10101010], .xorD), ([0b10101011], .xorE), ([0b10101100], .xorH), ([0b10101101],
  .xorL), ([0b10101110], .xorAtHl), ([0b10101111], .xorA)] : List (List Byte × Instr)).all reads = true := by
  decide

theorem test_decode_row_Bx : ([
  ([0b10110000], .orB), ([0b10110001], .orC), ([0b10110010], .orD), ([0b10110011], .orE), ([0b10110100],
  .orH), ([0b10110101], .orL), ([0b10110110], .orAtHl), ([0b10110111], .orA), ([0b10111000], .cpB),
  ([0b10111001], .cpC), ([0b10111010], .cpD), ([0b10111011], .cpE), ([0b10111100], .cpH), ([0b10111101],
  .cpL), ([0b10111110], .cpAtHl), ([0b10111111], .cpA)] : List (List Byte × Instr)).all reads = true := by
  decide

theorem test_decode_row_Cx : ([
  ([0b11000000], .retNz), ([0b11000001], .popBc), ([0b11000010, 0x34, 0x12], .jpNz 0x1234), ([0b11000011,
  0x34, 0x12], .jp 0x1234), ([0b11000100, 0x34, 0x12], .callNz 0x1234), ([0b11000101], .pushBc), ([0b11000110,
  0x34], .addAImm 0x34), ([0b11000111], .rst00), ([0b11001000], .retZ), ([0b11001001], .ret), ([0b11001010,
  0x34, 0x12], .jpZ 0x1234), ([0b11001011], .prefixCb), ([0b11001100, 0x34, 0x12], .callZ 0x1234),
  ([0b11001101, 0x34, 0x12], .call 0x1234), ([0b11001110, 0x34], .adcAImm 0x34), ([0b11001111], .rst08)] :
  List (List Byte × Instr)).all reads = true := by decide

theorem test_decode_row_Dx : ([
  ([0b11010000], .retNc), ([0b11010001], .popDe), ([0b11010010, 0x34, 0x12], .jpNc 0x1234), ([0b11010011],
  .illegalD3), ([0b11010100, 0x34, 0x12], .callNc 0x1234), ([0b11010101], .pushDe), ([0b11010110, 0x34],
  .subImm 0x34), ([0b11010111], .rst10), ([0b11011000], .retC), ([0b11011001], .reti), ([0b11011010, 0x34,
  0x12], .jpC 0x1234), ([0b11011011], .illegalDB), ([0b11011100, 0x34, 0x12], .callC 0x1234), ([0b11011101],
  .illegalDD), ([0b11011110, 0x34], .sbcAImm 0x34), ([0b11011111], .rst18)] : List (List Byte × Instr)).all
  reads = true := by decide

theorem test_decode_row_Ex : ([
  ([0b11100000, 0x34], .ldhAtOffA 0x34), ([0b11100001], .popHl), ([0b11100010], .ldAtCA), ([0b11100011],
  .illegalE3), ([0b11100100], .illegalE4), ([0b11100101], .pushHl), ([0b11100110, 0x34], .andImm 0x34),
  ([0b11100111], .rst20), ([0b11101000, 0x34], .addSpImm 0x34), ([0b11101001], .jpHl), ([0b11101010, 0x34,
  0x12], .ldAtAddrA 0x1234), ([0b11101011], .illegalEB), ([0b11101100], .illegalEC), ([0b11101101],
  .illegalED), ([0b11101110, 0x34], .xorImm 0x34), ([0b11101111], .rst28)] : List (List Byte × Instr)).all
  reads = true := by decide

theorem test_decode_row_Fx : ([
  ([0b11110000, 0x34], .ldhAAtOff 0x34), ([0b11110001], .popAf), ([0b11110010], .ldAAtC), ([0b11110011], .di),
  ([0b11110100], .illegalF4), ([0b11110101], .pushAf), ([0b11110110, 0x34], .orImm 0x34), ([0b11110111],
  .rst30), ([0b11111000, 0x34], .ldHlSpImm 0x34), ([0b11111001], .ldSpHl), ([0b11111010, 0x34, 0x12],
  .ldAAtAddr 0x1234), ([0b11111011], .ei), ([0b11111100], .illegalFC), ([0b11111101], .illegalFD),
  ([0b11111110, 0x34], .cpImm 0x34), ([0b11111111], .rst38)] : List (List Byte × Instr)).all reads = true :=
  by decide

theorem test_decode_cb_0x : ([
  ([0xCB, 0b00000000], .rlcB), ([0xCB, 0b00000001], .rlcC), ([0xCB, 0b00000010], .rlcD), ([0xCB, 0b00000011],
  .rlcE), ([0xCB, 0b00000100], .rlcH), ([0xCB, 0b00000101], .rlcL), ([0xCB, 0b00000110], .rlcAtHl), ([0xCB,
  0b00000111], .rlcA), ([0xCB, 0b00001000], .rrcB), ([0xCB, 0b00001001], .rrcC), ([0xCB, 0b00001010], .rrcD),
  ([0xCB, 0b00001011], .rrcE), ([0xCB, 0b00001100], .rrcH), ([0xCB, 0b00001101], .rrcL), ([0xCB, 0b00001110],
  .rrcAtHl), ([0xCB, 0b00001111], .rrcA)] : List (List Byte × Instr)).all reads = true := by decide

theorem test_decode_cb_1x : ([
  ([0xCB, 0b00010000], .rlB), ([0xCB, 0b00010001], .rlC), ([0xCB, 0b00010010], .rlD), ([0xCB, 0b00010011],
  .rlE), ([0xCB, 0b00010100], .rlH), ([0xCB, 0b00010101], .rlL), ([0xCB, 0b00010110], .rlAtHl), ([0xCB,
  0b00010111], .rlA), ([0xCB, 0b00011000], .rrB), ([0xCB, 0b00011001], .rrC), ([0xCB, 0b00011010], .rrD),
  ([0xCB, 0b00011011], .rrE), ([0xCB, 0b00011100], .rrH), ([0xCB, 0b00011101], .rrL), ([0xCB, 0b00011110],
  .rrAtHl), ([0xCB, 0b00011111], .rrA)] : List (List Byte × Instr)).all reads = true := by decide

theorem test_decode_cb_2x : ([
  ([0xCB, 0b00100000], .slaB), ([0xCB, 0b00100001], .slaC), ([0xCB, 0b00100010], .slaD), ([0xCB, 0b00100011],
  .slaE), ([0xCB, 0b00100100], .slaH), ([0xCB, 0b00100101], .slaL), ([0xCB, 0b00100110], .slaAtHl), ([0xCB,
  0b00100111], .slaA), ([0xCB, 0b00101000], .sraB), ([0xCB, 0b00101001], .sraC), ([0xCB, 0b00101010], .sraD),
  ([0xCB, 0b00101011], .sraE), ([0xCB, 0b00101100], .sraH), ([0xCB, 0b00101101], .sraL), ([0xCB, 0b00101110],
  .sraAtHl), ([0xCB, 0b00101111], .sraA)] : List (List Byte × Instr)).all reads = true := by decide

theorem test_decode_cb_3x : ([
  ([0xCB, 0b00110000], .swapB), ([0xCB, 0b00110001], .swapC), ([0xCB, 0b00110010], .swapD), ([0xCB,
  0b00110011], .swapE), ([0xCB, 0b00110100], .swapH), ([0xCB, 0b00110101], .swapL), ([0xCB, 0b00110110],
  .swapAtHl), ([0xCB, 0b00110111], .swapA), ([0xCB, 0b00111000], .srlB), ([0xCB, 0b00111001], .srlC), ([0xCB,
  0b00111010], .srlD), ([0xCB, 0b00111011], .srlE), ([0xCB, 0b00111100], .srlH), ([0xCB, 0b00111101], .srlL),
  ([0xCB, 0b00111110], .srlAtHl), ([0xCB, 0b00111111], .srlA)] : List (List Byte × Instr)).all reads = true :=
  by decide

theorem test_decode_cb_4x : ([
  ([0xCB, 0b01000000], .bit0B), ([0xCB, 0b01000001], .bit0C), ([0xCB, 0b01000010], .bit0D), ([0xCB,
  0b01000011], .bit0E), ([0xCB, 0b01000100], .bit0H), ([0xCB, 0b01000101], .bit0L), ([0xCB, 0b01000110],
  .bit0AtHl), ([0xCB, 0b01000111], .bit0A), ([0xCB, 0b01001000], .bit1B), ([0xCB, 0b01001001], .bit1C),
  ([0xCB, 0b01001010], .bit1D), ([0xCB, 0b01001011], .bit1E), ([0xCB, 0b01001100], .bit1H), ([0xCB,
  0b01001101], .bit1L), ([0xCB, 0b01001110], .bit1AtHl), ([0xCB, 0b01001111], .bit1A)] : List (List Byte ×
  Instr)).all reads = true := by decide

theorem test_decode_cb_5x : ([
  ([0xCB, 0b01010000], .bit2B), ([0xCB, 0b01010001], .bit2C), ([0xCB, 0b01010010], .bit2D), ([0xCB,
  0b01010011], .bit2E), ([0xCB, 0b01010100], .bit2H), ([0xCB, 0b01010101], .bit2L), ([0xCB, 0b01010110],
  .bit2AtHl), ([0xCB, 0b01010111], .bit2A), ([0xCB, 0b01011000], .bit3B), ([0xCB, 0b01011001], .bit3C),
  ([0xCB, 0b01011010], .bit3D), ([0xCB, 0b01011011], .bit3E), ([0xCB, 0b01011100], .bit3H), ([0xCB,
  0b01011101], .bit3L), ([0xCB, 0b01011110], .bit3AtHl), ([0xCB, 0b01011111], .bit3A)] : List (List Byte ×
  Instr)).all reads = true := by decide

theorem test_decode_cb_6x : ([
  ([0xCB, 0b01100000], .bit4B), ([0xCB, 0b01100001], .bit4C), ([0xCB, 0b01100010], .bit4D), ([0xCB,
  0b01100011], .bit4E), ([0xCB, 0b01100100], .bit4H), ([0xCB, 0b01100101], .bit4L), ([0xCB, 0b01100110],
  .bit4AtHl), ([0xCB, 0b01100111], .bit4A), ([0xCB, 0b01101000], .bit5B), ([0xCB, 0b01101001], .bit5C),
  ([0xCB, 0b01101010], .bit5D), ([0xCB, 0b01101011], .bit5E), ([0xCB, 0b01101100], .bit5H), ([0xCB,
  0b01101101], .bit5L), ([0xCB, 0b01101110], .bit5AtHl), ([0xCB, 0b01101111], .bit5A)] : List (List Byte ×
  Instr)).all reads = true := by decide

theorem test_decode_cb_7x : ([
  ([0xCB, 0b01110000], .bit6B), ([0xCB, 0b01110001], .bit6C), ([0xCB, 0b01110010], .bit6D), ([0xCB,
  0b01110011], .bit6E), ([0xCB, 0b01110100], .bit6H), ([0xCB, 0b01110101], .bit6L), ([0xCB, 0b01110110],
  .bit6AtHl), ([0xCB, 0b01110111], .bit6A), ([0xCB, 0b01111000], .bit7B), ([0xCB, 0b01111001], .bit7C),
  ([0xCB, 0b01111010], .bit7D), ([0xCB, 0b01111011], .bit7E), ([0xCB, 0b01111100], .bit7H), ([0xCB,
  0b01111101], .bit7L), ([0xCB, 0b01111110], .bit7AtHl), ([0xCB, 0b01111111], .bit7A)] : List (List Byte ×
  Instr)).all reads = true := by decide

theorem test_decode_cb_8x : ([
  ([0xCB, 0b10000000], .res0B), ([0xCB, 0b10000001], .res0C), ([0xCB, 0b10000010], .res0D), ([0xCB,
  0b10000011], .res0E), ([0xCB, 0b10000100], .res0H), ([0xCB, 0b10000101], .res0L), ([0xCB, 0b10000110],
  .res0AtHl), ([0xCB, 0b10000111], .res0A), ([0xCB, 0b10001000], .res1B), ([0xCB, 0b10001001], .res1C),
  ([0xCB, 0b10001010], .res1D), ([0xCB, 0b10001011], .res1E), ([0xCB, 0b10001100], .res1H), ([0xCB,
  0b10001101], .res1L), ([0xCB, 0b10001110], .res1AtHl), ([0xCB, 0b10001111], .res1A)] : List (List Byte ×
  Instr)).all reads = true := by decide

theorem test_decode_cb_9x : ([
  ([0xCB, 0b10010000], .res2B), ([0xCB, 0b10010001], .res2C), ([0xCB, 0b10010010], .res2D), ([0xCB,
  0b10010011], .res2E), ([0xCB, 0b10010100], .res2H), ([0xCB, 0b10010101], .res2L), ([0xCB, 0b10010110],
  .res2AtHl), ([0xCB, 0b10010111], .res2A), ([0xCB, 0b10011000], .res3B), ([0xCB, 0b10011001], .res3C),
  ([0xCB, 0b10011010], .res3D), ([0xCB, 0b10011011], .res3E), ([0xCB, 0b10011100], .res3H), ([0xCB,
  0b10011101], .res3L), ([0xCB, 0b10011110], .res3AtHl), ([0xCB, 0b10011111], .res3A)] : List (List Byte ×
  Instr)).all reads = true := by decide

theorem test_decode_cb_Ax : ([
  ([0xCB, 0b10100000], .res4B), ([0xCB, 0b10100001], .res4C), ([0xCB, 0b10100010], .res4D), ([0xCB,
  0b10100011], .res4E), ([0xCB, 0b10100100], .res4H), ([0xCB, 0b10100101], .res4L), ([0xCB, 0b10100110],
  .res4AtHl), ([0xCB, 0b10100111], .res4A), ([0xCB, 0b10101000], .res5B), ([0xCB, 0b10101001], .res5C),
  ([0xCB, 0b10101010], .res5D), ([0xCB, 0b10101011], .res5E), ([0xCB, 0b10101100], .res5H), ([0xCB,
  0b10101101], .res5L), ([0xCB, 0b10101110], .res5AtHl), ([0xCB, 0b10101111], .res5A)] : List (List Byte ×
  Instr)).all reads = true := by decide

theorem test_decode_cb_Bx : ([
  ([0xCB, 0b10110000], .res6B), ([0xCB, 0b10110001], .res6C), ([0xCB, 0b10110010], .res6D), ([0xCB,
  0b10110011], .res6E), ([0xCB, 0b10110100], .res6H), ([0xCB, 0b10110101], .res6L), ([0xCB, 0b10110110],
  .res6AtHl), ([0xCB, 0b10110111], .res6A), ([0xCB, 0b10111000], .res7B), ([0xCB, 0b10111001], .res7C),
  ([0xCB, 0b10111010], .res7D), ([0xCB, 0b10111011], .res7E), ([0xCB, 0b10111100], .res7H), ([0xCB,
  0b10111101], .res7L), ([0xCB, 0b10111110], .res7AtHl), ([0xCB, 0b10111111], .res7A)] : List (List Byte ×
  Instr)).all reads = true := by decide

theorem test_decode_cb_Cx : ([
  ([0xCB, 0b11000000], .set0B), ([0xCB, 0b11000001], .set0C), ([0xCB, 0b11000010], .set0D), ([0xCB,
  0b11000011], .set0E), ([0xCB, 0b11000100], .set0H), ([0xCB, 0b11000101], .set0L), ([0xCB, 0b11000110],
  .set0AtHl), ([0xCB, 0b11000111], .set0A), ([0xCB, 0b11001000], .set1B), ([0xCB, 0b11001001], .set1C),
  ([0xCB, 0b11001010], .set1D), ([0xCB, 0b11001011], .set1E), ([0xCB, 0b11001100], .set1H), ([0xCB,
  0b11001101], .set1L), ([0xCB, 0b11001110], .set1AtHl), ([0xCB, 0b11001111], .set1A)] : List (List Byte ×
  Instr)).all reads = true := by decide

theorem test_decode_cb_Dx : ([
  ([0xCB, 0b11010000], .set2B), ([0xCB, 0b11010001], .set2C), ([0xCB, 0b11010010], .set2D), ([0xCB,
  0b11010011], .set2E), ([0xCB, 0b11010100], .set2H), ([0xCB, 0b11010101], .set2L), ([0xCB, 0b11010110],
  .set2AtHl), ([0xCB, 0b11010111], .set2A), ([0xCB, 0b11011000], .set3B), ([0xCB, 0b11011001], .set3C),
  ([0xCB, 0b11011010], .set3D), ([0xCB, 0b11011011], .set3E), ([0xCB, 0b11011100], .set3H), ([0xCB,
  0b11011101], .set3L), ([0xCB, 0b11011110], .set3AtHl), ([0xCB, 0b11011111], .set3A)] : List (List Byte ×
  Instr)).all reads = true := by decide

theorem test_decode_cb_Ex : ([
  ([0xCB, 0b11100000], .set4B), ([0xCB, 0b11100001], .set4C), ([0xCB, 0b11100010], .set4D), ([0xCB,
  0b11100011], .set4E), ([0xCB, 0b11100100], .set4H), ([0xCB, 0b11100101], .set4L), ([0xCB, 0b11100110],
  .set4AtHl), ([0xCB, 0b11100111], .set4A), ([0xCB, 0b11101000], .set5B), ([0xCB, 0b11101001], .set5C),
  ([0xCB, 0b11101010], .set5D), ([0xCB, 0b11101011], .set5E), ([0xCB, 0b11101100], .set5H), ([0xCB,
  0b11101101], .set5L), ([0xCB, 0b11101110], .set5AtHl), ([0xCB, 0b11101111], .set5A)] : List (List Byte ×
  Instr)).all reads = true := by decide

theorem test_decode_cb_Fx : ([
  ([0xCB, 0b11110000], .set6B), ([0xCB, 0b11110001], .set6C), ([0xCB, 0b11110010], .set6D), ([0xCB,
  0b11110011], .set6E), ([0xCB, 0b11110100], .set6H), ([0xCB, 0b11110101], .set6L), ([0xCB, 0b11110110],
  .set6AtHl), ([0xCB, 0b11110111], .set6A), ([0xCB, 0b11111000], .set7B), ([0xCB, 0b11111001], .set7C),
  ([0xCB, 0b11111010], .set7D), ([0xCB, 0b11111011], .set7E), ([0xCB, 0b11111100], .set7H), ([0xCB,
  0b11111101], .set7L), ([0xCB, 0b11111110], .set7AtHl), ([0xCB, 0b11111111], .set7A)] : List (List Byte ×
  Instr)).all reads = true := by decide

/-- The table's numbering (log entry 8): a CB row carries the prefix in its high byte. -/
theorem test_table_words : (decide (decodeTableWord 16 0xCB37 = some .swapA) && decide (decodeTableWord 8 0x41 = some .ldBC) &&
    decide (decodeTableWord 8 0xCB = some .prefixCb)) = true := by decide

/-! ## Single steps

The start state of 95_test_vectors.md: PC = 0xC000, SP = 0xDFF0, all else 0, a DMG. -/

def start : Cpu :=
  Cpu.ofDraw { a := 0, b := 0, c := 0, d := 0, e := 0, h := 0, l := 0, sp := 0xDFF0, flags := 0 } 0xC000 0

/-- The machine with code at PC and other bytes placed. -/
def place (c : Cpu) (code : List Byte) (cells : List (Word × Byte)) : State :=
  ({ model := .dmg, cpu := c, platform := { Platform.powerOn with mem := Memory.pokeAll [] cells } } : State).load c.pc
    code

/-- The same machine as a CGB. -/
def onCgb (s : State) : State := { s with model := .cgb }

/-- A result is a next state of which `p` holds. -/
def answers (r : Result) (p : State → Bool) : Bool :=
  match r with
  | .next t => p t
  | _ => false

/-- One step answers a next state of which `p` holds. -/
def next (s : State) (p : State → Bool) : Bool := answers (step s) p

/-- One step from the start state changed by `c`. -/
def after (c : Cpu) (code : List Byte) (cells : List (Word × Byte)) (p : State → Bool) : Bool :=
  next (place c code cells) p

/-- `n` M-cycles were spent. -/
def spent (n : Nat) (t : State) : Bool := t.cpu.cycles == 4 * n

/-! Section 2.1: 8-bit loads -/

theorem test_ld_b_c : after { start with c := 0x5A } [0x41] [] (fun t => t.cpu.b == 0x5A && t.cpu.c == 0x5A &&
    spent 1 t) = true := by decide

theorem test_ld_a_a : after { start with a := 0x33, f := 0xB0 } [0x7F] [] (fun t => t.cpu.a == 0x33 && t.cpu.f ==
    0xB0 && spent 1 t) = true := by decide

theorem test_ld_e_d8 : after start [0x1E, 0x80] [] (fun t => t.cpu.e == 0x80 && t.cpu.pc == 0xC002 && spent 2 t) =
    true := by decide

theorem test_ld_a_at_bc : after { start with b := 0xC1, c := 0x23 } [0x0A] [(0xC123, 0x77)] (fun t => t.cpu.a ==
    0x77 && spent 2 t) = true := by decide

theorem test_ld_a_at_de : after { start with d := 0xC2, e := 0x00 } [0x1A] [(0xC200, 0x01)] (fun t => t.cpu.a ==
    0x01 && spent 2 t) = true := by decide

theorem test_ld_at_bc_a : after { start with b := 0xC0, c := 0x10, a := 0xAA } [0x02] [] (fun t => t.peek 0xC010
    == 0xAA && spent 2 t) = true := by decide

theorem test_ld_at_de_a : after { start with d := 0xC4, e := 0x56, a := 0x99 } [0x12] [] (fun t => t.peek 0xC456
    == 0x99 && spent 2 t) = true := by decide

theorem test_ld_at_hl_d8 : after { start with h := 0xC8, l := 0x00 } [0x36, 0xA5] [] (fun t => t.peek 0xC800 ==
    0xA5 && spent 3 t) = true := by decide

theorem test_ld_a_at_a16 : after start [0xFA, 0x34, 0xC2] [(0xC234, 0x42)] (fun t => t.cpu.a == 0x42 && spent 4 t)
    = true := by decide

theorem test_ld_at_a16_a : after { start with a := 0x81 } [0xEA, 0x00, 0xC3] [] (fun t => t.peek 0xC300 == 0x81 &&
    spent 4 t) = true := by decide

theorem test_ldh_a_at_a8 : after start [0xF0, 0x80] [(0xFF80, 0x11)] (fun t => t.cpu.a == 0x11 && spent 3 t) =
    true := by decide

theorem test_ldh_a_reads_if : after start [0xF0, 0x0F] [] (fun t => t.cpu.a == 0xE0 && spent 3 t) = true := by
    decide

theorem test_ld_at_c_a : after { start with c := 0x85, a := 0x3C } [0xE2] [] (fun t => t.peek 0xFF85 == 0x3C &&
    spent 2 t) = true := by decide

theorem test_ld_a_at_c_reads_if : after { start with c := 0x0F, iflag := 0x01 } [0xF2] [] (fun t => t.cpu.a ==
    0xE1 && spent 2 t) = true := by decide

theorem test_ldh_at_a8_a : after { start with a := 0x42 } [0xE0, 0x80] [] (fun t => t.peek 0xFF80 == 0x42 && spent
    3 t) = true := by decide

theorem test_ld_at_hl_inc_a : after { start with h := 0xC8, l := 0xFF, a := 0x10 } [0x22] [] (fun t => t.peek
    0xC8FF == 0x10 && t.cpu.hl == 0xC900 && spent 2 t) = true := by decide

theorem test_ld_at_hl_inc_a_top : after { start with h := 0xFF, l := 0xFF, a := 0x5A } [0x22] [] (fun t =>
    t.cpu.ie == 0x5A && t.cpu.hl == 0x0000 && spent 2 t) = true := by decide

theorem test_ld_at_hl_dec_a : after { start with h := 0xC8, l := 0x00, a := 0x20 } [0x32] [] (fun t => t.peek
    0xC800 == 0x20 && t.cpu.hl == 0xC7FF && spent 2 t) = true := by decide

theorem test_ld_a_at_hl_inc : after { start with h := 0xC8, l := 0xFF } [0x2A] [(0xC8FF, 0x66)] (fun t => t.cpu.a
    == 0x66 && t.cpu.hl == 0xC900 && spent 2 t) = true := by decide

theorem test_ld_a_at_hl_dec_bottom : after { start with h := 0x00, l := 0x00 } [0x3A] [(0x0000, 0x77)] (fun t =>
    t.cpu.a == 0x77 && t.cpu.hl == 0xFFFF && spent 2 t) = true := by decide

theorem test_ld_l_at_hl : after { start with h := 0xC8, l := 0x00 } [0x6E] [(0xC800, 0x12)] (fun t => t.cpu.h ==
    0xC8 && t.cpu.l == 0x12 && spent 2 t) = true := by decide

theorem test_ld_at_hl_h : after { start with h := 0xC8, l := 0x00 } [0x74] [] (fun t => t.peek 0xC800 == 0xC8 &&
    spent 2 t) = true := by decide

/-! Section 2.2: 16-bit loads and the stack -/

theorem test_ld_bc_d16 : after start [0x01, 0xCD, 0xAB] [] (fun t => t.cpu.bc == 0xABCD && spent 3 t) = true := by
    decide

theorem test_ld_sp_d16 : after start [0x31, 0xFE, 0xFF] [] (fun t => t.cpu.sp == 0xFFFE && spent 3 t) = true := by
    decide

theorem test_ld_at_a16_sp : after { start with sp := 0xBEEF } [0x08, 0x00, 0xC8] [] (fun t => t.peek 0xC800 ==
    0xEF && t.peek 0xC801 == 0xBE && spent 5 t) = true := by decide

theorem test_ld_sp_hl : after { start with h := 0x12, l := 0x34 } [0xF9] [] (fun t => t.cpu.sp == 0x1234 && spent
    2 t) = true := by decide

theorem test_push_bc : after { start with b := 0xBE, c := 0xEF } [0xC5] [] (fun t => t.cpu.sp == 0xDFEE && t.peek
    0xDFEF == 0xBE && t.peek 0xDFEE == 0xEF && spent 4 t) = true := by decide

theorem test_push_bc_bottom : after { start with b := 0x1F, c := 0x22, sp := 0x0001 } [0xC5] [] (fun t => t.cpu.ie
    == 0x22 && t.peek 0x0000 == 0xFF && t.cpu.sp == 0xFFFF && spent 4 t) = true := by decide

theorem test_push_af : after { start with a := 0x12, f := 0xB0 } [0xF5] [] (fun t => t.cpu.sp == 0xDFEE && t.peek
    0xDFEF == 0x12 && t.peek 0xDFEE == 0xB0 && spent 4 t) = true := by decide

theorem test_pop_de : after { start with sp := 0xDFEE } [0xD1] [(0xDFEE, 0x34), (0xDFEF, 0x12)] (fun t => t.cpu.de
    == 0x1234 && t.cpu.sp == 0xDFF0 && spent 3 t) = true := by decide

theorem test_pop_af : after { start with sp := 0xDFEE } [0xF1] [(0xDFEE, 0xFF), (0xDFEF, 0x12)] (fun t => t.cpu.a
    == 0x12 && t.cpu.f == 0xF0 && t.cpu.sp == 0xDFF0 && spent 3 t) = true := by decide

theorem test_pop_bc_top : after { start with sp := 0xFFFF } [0xC1] [(0x0000, 0x00)] (fun t => t.cpu.bc == 0x0000
    && t.cpu.sp == 0x0001 && spent 3 t) = true := by decide

theorem test_ld_hl_sp_carries : after { start with sp := 0x00FF, f := 0xF0 } [0xF8, 0x01] [] (fun t => t.cpu.hl ==
    0x0100 && t.cpu.f == 0x30 && spent 3 t) = true := by decide

theorem test_ld_hl_sp_back : after { start with sp := 0x0000, f := 0xF0 } [0xF8, 0xFF] [] (fun t => t.cpu.hl ==
    0xFFFF && t.cpu.f == 0x00 && spent 3 t) = true := by decide

/-! Section 2.3: 8-bit arithmetic and logic -/

theorem test_add_b : after { start with a := 0x0F, b := 0xFF } [0x80] [] (fun t => t.cpu.a == 0x0E && t.cpu.f ==
    0x30 && spent 1 t) = true := by decide

theorem test_adc_b : after { start with a := 0xFF, b := 0xFF, f := 0x10 } [0x88] [] (fun t => t.cpu.a == 0xFF &&
    t.cpu.f == 0x30 && spent 1 t) = true := by decide

theorem test_sub_b : after { start with a := 0x0F, b := 0xFF } [0x90] [] (fun t => t.cpu.a == 0x10 && t.cpu.f ==
    0x50 && spent 1 t) = true := by decide

theorem test_sbc_b : after { start with a := 0x00, b := 0xFF, f := 0x10 } [0x98] [] (fun t => t.cpu.a == 0x00 &&
    t.cpu.f == 0xF0 && spent 1 t) = true := by decide

theorem test_and_b : after { start with a := 0x0F, b := 0x01 } [0xA0] [] (fun t => t.cpu.a == 0x01 && t.cpu.f ==
    0x20 && spent 1 t) = true := by decide

theorem test_xor_b : after { start with a := 0xFF, b := 0xFF } [0xA8] [] (fun t => t.cpu.a == 0x00 && t.cpu.f ==
    0x80 && spent 1 t) = true := by decide

theorem test_or_b : after { start with a := 0x0F, b := 0x01 } [0xB0] [] (fun t => t.cpu.a == 0x0F && t.cpu.f ==
    0x00 && spent 1 t) = true := by decide

theorem test_cp_b : after { start with a := 0x0F, b := 0xFF } [0xB8] [] (fun t => t.cpu.a == 0x0F && t.cpu.f ==
    0x50 && spent 1 t) = true := by decide

theorem test_add_at_hl : after { start with a := 0x3A, h := 0xC8, l := 0x00 } [0x86] [(0xC800, 0xC6)] (fun t =>
    t.cpu.a == 0x00 && t.cpu.f == 0xB0 && spent 2 t) = true := by decide

theorem test_add_a_d8 : after { start with a := 0x3A } [0xC6, 0xC6] [] (fun t => t.cpu.a == 0x00 && t.cpu.f ==
    0xB0 && spent 2 t) = true := by decide

theorem test_add_a_a : after { start with a := 0x88 } [0x87] [] (fun t => t.cpu.a == 0x10 && t.cpu.f == 0x30 &&
    spent 1 t) = true := by decide

theorem test_sub_a : after { start with a := 0x5C, f := 0x30 } [0x97] [] (fun t => t.cpu.a == 0x00 && t.cpu.f ==
    0xC0 && spent 1 t) = true := by decide

theorem test_sbc_a_a : after { start with a := 0x5C, f := 0x10 } [0x9F] [] (fun t => t.cpu.a == 0xFF && t.cpu.f ==
    0x70 && spent 1 t) = true := by decide

theorem test_adc_a_d8 : after { start with a := 0xE1, f := 0x10 } [0xCE, 0x0F] [] (fun t => t.cpu.a == 0xF1 &&
    t.cpu.f == 0x20 && spent 2 t) = true := by decide

theorem test_sbc_at_hl : after { start with a := 0x3B, f := 0x10, h := 0xC8, l := 0x00 } [0x9E] [(0xC800, 0x4F)]
    (fun t => t.cpu.a == 0xEB && t.cpu.f == 0x70 && spent 2 t) = true := by decide

theorem test_and_d8 : after { start with a := 0xF0, f := 0x50 } [0xE6, 0x0F] [] (fun t => t.cpu.a == 0x00 &&
    t.cpu.f == 0xA0 && spent 2 t) = true := by decide

theorem test_xor_a : after { start with a := 0x77, f := 0x70 } [0xAF] [] (fun t => t.cpu.a == 0x00 && t.cpu.f ==
    0x80 && spent 1 t) = true := by decide

theorem test_or_at_hl : after { start with h := 0xC8, l := 0x00 } [0xB6] [] (fun t => t.cpu.a == 0x00 && t.cpu.f
    == 0x80 && spent 2 t) = true := by decide

theorem test_cp_d8 : after { start with a := 0x3C } [0xFE, 0x3C] [] (fun t => t.cpu.a == 0x3C && t.cpu.f == 0xC0
    && spent 2 t) = true := by decide

theorem test_cp_at_hl : after { start with a := 0x3C, h := 0xC8, l := 0x00 } [0xBE] [(0xC800, 0x40)] (fun t =>
    t.cpu.a == 0x3C && t.cpu.f == 0x50 && spent 2 t) = true := by decide

theorem test_inc_b_wraps : after { start with b := 0xFF, f := 0x10 } [0x04] [] (fun t => t.cpu.b == 0x00 &&
    t.cpu.f == 0xB0 && spent 1 t) = true := by decide

theorem test_dec_b_wraps : after { start with b := 0x00, f := 0x10 } [0x05] [] (fun t => t.cpu.b == 0xFF &&
    t.cpu.f == 0x70 && spent 1 t) = true := by decide

theorem test_inc_a : after { start with a := 0x0F, f := 0x40 } [0x3C] [] (fun t => t.cpu.a == 0x10 && t.cpu.f ==
    0x20 && spent 1 t) = true := by decide

theorem test_inc_at_hl : after { start with h := 0xC8, l := 0x00 } [0x34] [(0xC800, 0xFF)] (fun t => t.peek 0xC800
    == 0x00 && t.cpu.f == 0xA0 && spent 3 t) = true := by decide

theorem test_dec_at_hl : after { start with h := 0xC8, l := 0x00, f := 0x10 } [0x35] [(0xC800, 0x10)] (fun t =>
    t.peek 0xC800 == 0x0F && t.cpu.f == 0x70 && spent 3 t) = true := by decide

/-! Section 2.4: 16-bit arithmetic -/

theorem test_add_hl_bc : after { start with h := 0xFF, l := 0xFF, b := 0x00, c := 0x01, f := 0x80 } [0x09] [] (fun
    t => t.cpu.hl == 0x0000 && t.cpu.f == 0xB0 && spent 2 t) = true := by decide

theorem test_add_hl_hl : after { start with h := 0x80, l := 0x01 } [0x29] [] (fun t => t.cpu.hl == 0x0002 &&
    t.cpu.f == 0x10 && spent 2 t) = true := by decide

theorem test_add_sp_top : after { start with sp := 0xFFFF, f := 0xF0 } [0xE8, 0x01] [] (fun t => t.cpu.sp ==
    0x0000 && t.cpu.f == 0x30 && spent 4 t) = true := by decide

theorem test_add_sp_back : after { start with sp := 0x1000, f := 0xF0 } [0xE8, 0x80] [] (fun t => t.cpu.sp ==
    0x0F80 && t.cpu.f == 0x00 && spent 4 t) = true := by decide

theorem test_inc_bc : after { start with b := 0xFF, c := 0xFF, f := 0xA0 } [0x03] [] (fun t => t.cpu.bc == 0x0000
    && t.cpu.f == 0xA0 && spent 2 t) = true := by decide

theorem test_dec_bc : after { start with b := 0x00, c := 0x00, f := 0xA0 } [0x0B] [] (fun t => t.cpu.bc == 0xFFFF
    && t.cpu.f == 0xA0 && spent 2 t) = true := by decide

theorem test_inc_sp : after { start with sp := 0x00FF, f := 0xA0 } [0x33] [] (fun t => t.cpu.sp == 0x0100 &&
    t.cpu.f == 0xA0 && spent 2 t) = true := by decide

/-! Section 2.5: rotates, shifts and SWAP -/

theorem test_rlca : after { start with a := 0x85, f := 0x10 } [0x07] [] (fun t => t.cpu.a == 0x0B && t.cpu.f ==
    0x10 && spent 1 t) = true := by decide

theorem test_rrca : after { start with a := 0x85, f := 0x10 } [0x0F] [] (fun t => t.cpu.a == 0xC2 && t.cpu.f ==
    0x10 && spent 1 t) = true := by decide

theorem test_rla : after { start with a := 0x85, f := 0x10 } [0x17] [] (fun t => t.cpu.a == 0x0B && t.cpu.f ==
    0x10 && spent 1 t) = true := by decide

theorem test_rra : after { start with a := 0x85, f := 0x10 } [0x1F] [] (fun t => t.cpu.a == 0xC2 && t.cpu.f ==
    0x10 && spent 1 t) = true := by decide

theorem test_rlca_of_zero : after { start with a := 0x00 } [0x07] [] (fun t => t.cpu.a == 0x00 && t.cpu.f == 0x00
    && spent 1 t) = true := by decide

theorem test_rlc_b : after { start with b := 0xF0, f := 0x10 } [0xCB, 0x00] [] (fun t => t.cpu.b == 0xE1 &&
    t.cpu.f == 0x10 && spent 2 t) = true := by decide

theorem test_rrc_b : after { start with b := 0xF0, f := 0x10 } [0xCB, 0x08] [] (fun t => t.cpu.b == 0x78 &&
    t.cpu.f == 0x00 && spent 2 t) = true := by decide

theorem test_rl_b : after { start with b := 0xF0, f := 0x10 } [0xCB, 0x10] [] (fun t => t.cpu.b == 0xE1 && t.cpu.f
    == 0x10 && spent 2 t) = true := by decide

theorem test_rr_b : after { start with b := 0xF0, f := 0x10 } [0xCB, 0x18] [] (fun t => t.cpu.b == 0xF8 && t.cpu.f
    == 0x00 && spent 2 t) = true := by decide

theorem test_sla_b : after { start with b := 0xF0, f := 0x10 } [0xCB, 0x20] [] (fun t => t.cpu.b == 0xE0 &&
    t.cpu.f == 0x10 && spent 2 t) = true := by decide

theorem test_sra_b : after { start with b := 0xF0, f := 0x10 } [0xCB, 0x28] [] (fun t => t.cpu.b == 0xF8 &&
    t.cpu.f == 0x00 && spent 2 t) = true := by decide

theorem test_swap_b : after { start with b := 0xF0, f := 0x10 } [0xCB, 0x30] [] (fun t => t.cpu.b == 0x0F &&
    t.cpu.f == 0x00 && spent 2 t) = true := by decide

theorem test_srl_b : after { start with b := 0xF0, f := 0x10 } [0xCB, 0x38] [] (fun t => t.cpu.b == 0x78 &&
    t.cpu.f == 0x00 && spent 2 t) = true := by decide

theorem test_rlc_at_hl : after { start with h := 0xC8, l := 0x00 } [0xCB, 0x06] [(0xC800, 0x80)] (fun t => t.peek
    0xC800 == 0x01 && t.cpu.f == 0x10 && spent 4 t) = true := by decide

theorem test_swap_at_hl : after { start with h := 0xC8, l := 0x00, f := 0xF0 } [0xCB, 0x36] [] (fun t => t.peek
    0xC800 == 0x00 && t.cpu.f == 0x80 && spent 4 t) = true := by decide

theorem test_sra_at_hl : after { start with h := 0xC8, l := 0x00 } [0xCB, 0x2E] [(0xC800, 0x81)] (fun t => t.peek
    0xC800 == 0xC0 && t.cpu.f == 0x10 && spent 4 t) = true := by decide

theorem test_srl_a : after { start with a := 0x01 } [0xCB, 0x3F] [] (fun t => t.cpu.a == 0x00 && t.cpu.f == 0x90
    && spent 2 t) = true := by decide

/-! Section 2.6: BIT, RES and SET -/

theorem test_bit_0_b : after { start with b := 0x80, f := 0x50 } [0xCB, 0x40] [] (fun t => t.cpu.b == 0x80 &&
    t.cpu.f == 0xB0 && spent 2 t) = true := by decide

theorem test_bit_7_b : after { start with b := 0x80, f := 0x50 } [0xCB, 0x78] [] (fun t => t.cpu.f == 0x30 &&
    spent 2 t) = true := by decide

theorem test_bit_3_at_hl : after { start with h := 0xC8, l := 0x00 } [0xCB, 0x5E] [(0xC800, 0x08)] (fun t =>
    t.cpu.f == 0x20 && t.peek 0xC800 == 0x08 && spent 3 t) = true := by decide

theorem test_res_3_a : after { start with a := 0xFF } [0xCB, 0x9F] [] (fun t => t.cpu.a == 0xF7 && t.cpu.f == 0x00
    && spent 2 t) = true := by decide

theorem test_res_7_at_hl : after { start with h := 0xC8, l := 0x00, f := 0xF0 } [0xCB, 0xBE] [(0xC800, 0xFF)] (fun
    t => t.peek 0xC800 == 0x7F && t.cpu.f == 0xF0 && spent 4 t) = true := by decide

theorem test_set_3_c : after start [0xCB, 0xD9] [] (fun t => t.cpu.c == 0x08 && spent 2 t) = true := by decide

theorem test_set_7_at_hl : after { start with h := 0xC8, l := 0x00 } [0xCB, 0xFE] [(0xC800, 0x01)] (fun t =>
    t.peek 0xC800 == 0x81 && spent 4 t) = true := by decide

/-! Section 2.7: control transfer -/

theorem test_jr_forward : after start [0x18, 0x7F] [] (fun t => t.cpu.pc == 0xC081 && spent 3 t) = true := by
    decide

theorem test_jr_back : after start [0x18, 0x80] [] (fun t => t.cpu.pc == 0xBF82 && spent 3 t) = true := by decide

theorem test_jr_nz_taken : after start [0x20, 0x10] [] (fun t => t.cpu.pc == 0xC012 && spent 3 t) = true := by
    decide

theorem test_jr_nz_not_taken : after { start with f := 0x80 } [0x20, 0x10] [] (fun t => t.cpu.pc == 0xC002 &&
    spent 2 t) = true := by decide

theorem test_jp_c_not_taken : after start [0xDA, 0x34, 0x12] [] (fun t => t.cpu.pc == 0xC003 && spent 3 t) = true
    := by decide

theorem test_jp_c_taken : after { start with f := 0x10 } [0xDA, 0x34, 0x12] [] (fun t => t.cpu.pc == 0x1234 &&
    spent 4 t) = true := by decide

theorem test_jp_hl : after { start with h := 0x40, l := 0x00 } [0xE9] [] (fun t => t.cpu.pc == 0x4000 && spent 1
    t) = true := by decide

theorem test_call : after start [0xCD, 0x00, 0xD0] [] (fun t => t.cpu.pc == 0xD000 && t.cpu.sp == 0xDFEE && t.peek
    0xDFEF == 0xC0 && t.peek 0xDFEE == 0x03 && spent 6 t) = true := by decide

theorem test_call_nz_taken : after start [0xC4, 0x00, 0xD0] [] (fun t => t.cpu.pc == 0xD000 && t.cpu.sp == 0xDFEE
    && spent 6 t) = true := by decide

theorem test_call_nz_not_taken : after { start with f := 0x80 } [0xC4, 0x00, 0xD0] [] (fun t => t.cpu.pc == 0xC003
    && t.cpu.sp == 0xDFF0 && spent 3 t) = true := by decide

theorem test_ret : after { start with sp := 0xDFEE } [0xC9] [(0xDFEE, 0x03), (0xDFEF, 0xC1)] (fun t => t.cpu.pc ==
    0xC103 && t.cpu.sp == 0xDFF0 && spent 4 t) = true := by decide

theorem test_ret_c_not_taken : after { start with sp := 0xDFEE } [0xD8] [] (fun t => t.cpu.pc == 0xC001 &&
    t.cpu.sp == 0xDFEE && spent 2 t) = true := by decide

theorem test_ret_c_taken : after { start with sp := 0xDFEE, f := 0x10 } [0xD8] [(0xDFEE, 0x03), (0xDFEF, 0xC1)]
    (fun t => t.cpu.pc == 0xC103 && t.cpu.sp == 0xDFF0 && spent 5 t) = true := by decide

theorem test_reti : after { start with sp := 0xDFEE } [0xD9] [(0xDFEE, 0x03), (0xDFEF, 0xC1)] (fun t => t.cpu.pc
    == 0xC103 && t.cpu.sp == 0xDFF0 && t.cpu.ime && spent 4 t) = true := by decide

theorem test_rst_00 : after start [0xC7] [] (fun t => t.cpu.pc == 0x0000 && t.cpu.sp == 0xDFEE && t.peek 0xDFEF ==
    0xC0 && t.peek 0xDFEE == 0x01 && spent 4 t) = true := by decide

theorem test_rst_38 : after start [0xFF] [] (fun t => t.cpu.pc == 0x0038 && t.cpu.sp == 0xDFEE && t.peek 0xDFEF ==
    0xC0 && t.peek 0xDFEE == 0x01 && spent 4 t) = true := by decide

/-! Section 2.8: miscellaneous and system instructions -/

theorem test_daa_after_add : after { start with a := 0x9A } [0x27] [] (fun t => t.cpu.a == 0x00 && t.cpu.f == 0x90
    && spent 1 t) = true := by decide

theorem test_daa_after_sub : after { start with a := 0x66, f := 0x70 } [0x27] [] (fun t => t.cpu.a == 0x00 &&
    t.cpu.f == 0xD0 && spent 1 t) = true := by decide

theorem test_cpl : after { start with a := 0x35, f := 0xF0 } [0x2F] [] (fun t => t.cpu.a == 0xCA && t.cpu.f ==
    0xF0 && spent 1 t) = true := by decide

theorem test_scf : after { start with f := 0xF0 } [0x37] [] (fun t => t.cpu.f == 0x90 && spent 1 t) = true := by
    decide

theorem test_ccf : after { start with f := 0xF0 } [0x3F] [] (fun t => t.cpu.f == 0x80 && spent 1 t) = true := by
    decide

theorem test_nop : after start [0x00] [] (fun t => t.cpu.pc == 0xC001 && spent 1 t) = true := by decide

theorem test_di : after { start with ime := true } [0xF3] [] (fun t => !t.cpu.ime && !t.cpu.imeLatch && spent 1 t)
    = true := by decide

theorem test_ei : after start [0xFB] [] (fun t => !t.cpu.ime && t.cpu.imeLatch && spent 1 t) = true := by decide

theorem test_halt : after { start with ie := 0x01 } [0x76] [] (fun t => t.cpu.halted && !t.cpu.haltBug && t.cpu.pc
    == 0xC001 && spent 1 t) = true := by decide

theorem test_halt_bug : after { start with ie := 0x01, iflag := 0x01 } [0x76] [] (fun t => !t.cpu.halted &&
    t.cpu.haltBug && t.cpu.pc == 0xC001 && spent 1 t) = true := by decide

theorem test_stop_dmg : after start [0x10, 0x00] [] (fun t => t.cpu.stopped && t.cpu.pc == 0xC002 && spent 1 t) =
    true := by decide

theorem test_stop_cgb : next (onCgb (place { start with key1Prepare := true } [0x10, 0x00] [])) (fun t =>
    !t.cpu.stopped && t.cpu.key1Speed && !t.cpu.key1Prepare && t.cpu.pc == 0xC002 && t.peek 0xFF4D == 0xFE &&
    spent 1 t) = true := by decide

theorem test_key1_cgb : next (onCgb (place start [0xF0, 0x4D] [])) (fun t => t.cpu.a == 0x7E && spent 3 t) = true
    := by decide

theorem test_key1_dmg : after start [0xF0, 0x4D] [] (fun t => t.cpu.a == 0xFF && spent 3 t) = true := by decide

theorem test_unassigned : after start [0xDB] [] (fun t => t.cpu.locked && t.cpu.pc == 0xC001 && spent 1 t) = true
    := by decide

/-! Section 2.9 and the programs of section 3: interrupts, power states, reset -/

theorem test_dispatch_priority : after { start with ime := true, ie := 0x1F, iflag := 0x1F } [0x00] [] (fun t =>
    t.cpu.pc == 0x0040 && t.cpu.iflag == 0x1E && !t.cpu.ime && t.cpu.sp == 0xDFEE && t.peek 0xDFEF == 0xC0 &&
    t.peek 0xDFEE == 0x00 && spent 5 t) = true := by decide

theorem test_masked_by_ie : after { start with ime := true, ie := 0x02, iflag := 0x01 } [0x04] [] (fun t =>
    t.cpu.b == 0x01 && t.cpu.pc == 0xC001 && t.cpu.iflag == 0x01 && spent 1 t) = true := by decide

theorem test_ie_high_bits : after { start with ime := true, ie := 0xE0, iflag := 0x1F } [0x04] [] (fun t =>
    t.cpu.b == 0x01 && t.cpu.pc == 0xC001 && spent 1 t) = true := by decide

theorem test_halted_idle : after { start with halted := true, ie := 0x04 } [0x04] [] (fun t => t.cpu.halted &&
    t.cpu.b == 0x00 && t.cpu.pc == 0xC000 && spent 1 t) = true := by decide

theorem test_halted_wake_no_ime : after { start with halted := true, ie := 0x04, iflag := 0x04 } [0x04] [] (fun t
    => !t.cpu.halted && t.cpu.b == 0x01 && t.cpu.iflag == 0x04 && t.cpu.pc == 0xC001 && spent 1 t) = true := by
    decide

theorem test_halted_wake_dispatch : after { start with halted := true, ime := true, ie := 0x04, iflag := 0x04 }
    [0x04] [] (fun t => !t.cpu.halted && t.cpu.pc == 0x0050 && t.cpu.iflag == 0x00 && spent 5 t) = true := by
    decide

theorem test_stopped : after { start with stopped := true, ime := true, ie := 0x01, iflag := 0x01 } [0x04] [] (fun
    t => t.cpu.stopped && t.cpu.pc == 0xC000 && spent 0 t) = true := by decide

theorem test_locked : after { start with locked := true, ime := true, ie := 0x01, iflag := 0x01 } [0x04] [] (fun t
    => t.cpu.locked && t.cpu.pc == 0xC000 && t.cpu.iflag == 0x01 && spent 1 t) = true := by decide

theorem test_halt_bug_fetch : after { start with haltBug := true, pc := 0xC007 } [0x3E, 0x14] [] (fun t => t.cpu.a
    == 0x3E && t.cpu.pc == 0xC008 && !t.cpu.haltBug && spent 2 t) = true := by decide

theorem test_promotion_after_ei : after { start with imeLatch := true } [0x0C] [] (fun t => t.cpu.c == 0x01 &&
    t.cpu.ime && !t.cpu.imeLatch && spent 1 t) = true := by decide

theorem test_dispatch_with_halt_bug :
    after { start with ime := true, haltBug := true, ie := 0x01, iflag := 0x01, pc := 0xC002 } [0x00] [] (fun
      t => t.cpu.pc == 0x0040 && t.cpu.sp == 0xDFEE && t.peek 0xDFEF == 0xC0 && t.peek 0xDFEE == 0x01 &&
      !t.cpu.haltBug && spent 5 t) = true := by decide

/-- The host's edge, then the step that dispatches (R537). -/
theorem test_input_edge : next { place { start with stopped := true, ime := true, ie := 0x10 } [0x00] [] with
      platform := { Platform.powerOn with host := [[.inputEdge true]] } }
    (fun t => t.cpu.pc == 0x60 && !t.cpu.stopped && spent 5 t) = true := by decide

theorem test_reset_dmg : (let c := Cpu.afterReset .dmg .skipped
    c.af == 0x01B0 && c.bc == 0x0013 && c.de == 0x00D8 && c.hl == 0x014D && c.sp == 0xFFFE && c.pc == 0x0100 &&
      c.iflag == 0x01) = true := by decide

theorem test_reset_cgb : (let c := Cpu.afterReset .cgb .skipped
    c.af == 0x1180 && c.bc == 0x0000 && c.de == 0xFF56 && c.hl == 0x000D && c.sp == 0xFFFE && c.pc == 0x0100 &&
      c.iflag == 0x01) = true := by decide

/-- The first step after reset runs the placed instruction (log entry 9). -/
theorem test_first_step : next (State.reset.withFetchWord 16 0x5A3E) (fun t => t.cpu.a == 0x5A && t.cpu.pc == 0x0102) =
    true := by decide

/-- A request that a `Tick` raises before a read is seen by that read (R587; 95_test_vectors.md E3). -/
theorem test_tick_before_access : next { place start [0xF0, 0x0F] [] with
      platform := { (place start [0xF0, 0x0F] []).platform with
        script := [BusCycle.quiet, BusCycle.quiet, { BusCycle.quiet with tick := { Effect.none with raises := [.timer] } }] } }
    (fun t => t.cpu.a == 0xE4) = true := by decide

/-- A PC match stops the frame driver before the Step at that PC; without one, the instruction runs (R545). -/
theorem test_breakpoint : (
    let s : State := { place start [0x3E, 0x55] [] with
      platform := { (place start [0x3E, 0x55] []).platform with host := [[.breakpoint 0xC000]] } };
    answers (s.drive 0 70224 1) (fun t => t.cpu.a == 0x00 && t.cpu.pc == 0xC000 && t.platform.debugging) &&
      answers ((place start [0x3E, 0x55] []).drive 0 70224 1) (fun t => t.cpu.a == 0x55 && !t.platform.debugging)) =
    true := by decide

/-! ## Witnesses

For each obligation with hypotheses, a state and operands that meet them together; where clauses have hypotheses of
their own, one for each. -/

/-- A result that is a next state. -/
def isNext : Result → Bool
  | .next _ => true
  | _ => false

theorem next_of_isNext {r : Result} (h : isNext r = true) : ∃ t, r = .next t := by
  cases r with
  | next t => exact ⟨t, rfl⟩
  | fault f => cases f
  | refused r => cases h

theorem test_witness_DecodeInvertsEncode : (WellFormed (.ldSpImm 0xFFFF) && WellFormed .stop && WellFormed .set7A) =
    true := by decide

theorem test_witness_EncodeInvertsDecode : decode [0x31, 0xFE, 0xFF, 0x00] = .ok (.ldSpImm 0xFFFE) [0x00] ∧
    decode [0x10, 0x99, 0x07] = .ok .stop [0x07] := by decide

/-- Running, waking from HALT, and with IME = 1 and nothing pending. -/
theorem test_witness_StepRunsDecodedInstruction :
    (runsInstruction (place start [0x31, 0xFE, 0xFF] []) ∧
      decode (bytesAhead (place start [0x31, 0xFE, 0xFF] []).wake) = .ok (.ldSpImm 0xFFFE) []) ∧
    (runsInstruction (place { start with halted := true, ie := 0x01, iflag := 0x01 } [0x10, 0x00, 0x04] []) ∧
      decode (bytesAhead (place { start with halted := true, ie := 0x01, iflag := 0x01 } [0x10, 0x00, 0x04] []).wake) =
        .ok .stop [0x04]) ∧
    (runsInstruction (place { start with ime := true, ie := 0xE0, iflag := 0x1F } [0xCB, 0x37, 0x00] []) ∧
      decode (bytesAhead (place { start with ime := true, ie := 0xE0, iflag := 0x1F } [0xCB, 0x37, 0x00] []).wake) =
        .ok .swapA [0x00]) := by
  unfold runsInstruction
  decide

theorem test_witness_FetchReadsAtPcUnlessHaltBug :
    ((place { start with pc := 0xFFFF } [] []).platform.script = [] ∧
      (place { start with pc := 0xFFFF } [] []).cpu.haltBug = false) ∧
    ((place { start with haltBug := true } [] []).platform.script = [] ∧
      (place { start with haltBug := true } [] []).cpu.haltBug = true) := by decide

theorem test_witness_LockedStepIsOneIdle : (place { start with locked := true } [] []).cpu.locked = true := by decide

/-- The edge's Joypad request pending with IME = 1, and nothing pending. -/
theorem test_witness_StoppedUntilInputEdge :
    (let s := place { start with stopped := true, ime := true, ie := 0x10 } [] [];
      s.cpu.stopped = true ∧ s.cpu.locked = false ∧ s.cpu.halted = false ∧
        (s.hostAct (.inputEdge true)).cpu.ime = true ∧ (s.hostAct (.inputEdge true)).cpu.pending ≠ 0) ∧
    (let s := place { start with stopped := true } [] [];
      s.cpu.stopped = true ∧ s.cpu.locked = false ∧ s.cpu.halted = false ∧
        ¬ ((s.hostAct (.inputEdge false)).cpu.ime = true ∧ (s.hostAct (.inputEdge false)).cpu.pending ≠ 0)) := by
  decide

theorem test_witness_HaltedIdlesUntilPending :
    (let c : Cpu := { start with halted := true, ie := 0xE0, iflag := 0x1F };
      c.halted = true ∧ c.locked = false ∧ c.stopped = false ∧ c.pending = 0) ∧
    (let c : Cpu := { start with halted := true, ime := true, ie := 0x10, iflag := 0x10 };
      c.halted = true ∧ c.locked = false ∧ c.stopped = false ∧ c.pending ≠ 0 ∧ c.ime = true) ∧
    (let c : Cpu := { start with halted := true, ie := 0x01, iflag := 0x01 };
      c.halted = true ∧ c.locked = false ∧ c.stopped = false ∧ c.pending ≠ 0 ∧ c.ime = false) := by decide

theorem test_witness_DispatchExactlyWhenEnabledAndPending :
    (let c : Cpu := { start with ime := true, ie := 0x01, iflag := 0x01 };
      c.locked = false ∧ c.stopped = false ∧ c.halted = false ∧ c.ime = true ∧ c.pending ≠ 0) ∧
    (let c : Cpu := { start with ie := 0x01, iflag := 0x01 };
      c.locked = false ∧ c.stopped = false ∧ c.halted = false ∧ ¬ (c.ime = true ∧ c.pending ≠ 0)) := by decide

theorem test_witness_LowestPendingIsTaken : 4 < 5 ∧ (0x10 : BitVec 5) ≠ 0 ∧ 3 < (lowestPending 0x10).val := by decide

/-- Without and with the halt bug; the addresses just outside the two pushed bytes; every IF bit. -/
theorem test_witness_DispatchSavesPcAndEntersVector :
    (let s := place { start with ime := true, ie := 0x1F, iflag := 0x1F } [] [];
      s.cpu.pending ≠ 0 ∧ s.cpu.haltBug = false ∧
      (cellOf 0xDFF0 ≠ cellOf (s.cpu.sp - 1) ∧ cellOf 0xDFF0 ≠ cellOf (s.cpu.sp - 2) ∧ (0xDFF0 : Word) ≠ 0xFF0F ∧
        platformTouches s 5 0xDFF0 = false) ∧
      (cellOf 0xDFED ≠ cellOf (s.cpu.sp - 1) ∧ cellOf 0xDFED ≠ cellOf (s.cpu.sp - 2) ∧ (0xDFED : Word) ≠ 0xFF0F ∧
        platformTouches s 5 0xDFED = false) ∧
      s.cpu.sp - 1 ≠ 0xFF0F ∧ s.cpu.sp - 2 ≠ 0xFF0F ∧ platformTouches s 5 0xFF0F = false ∧ 0 < 5 ∧ 4 < 5) ∧
    (let s := place { start with ime := true, haltBug := true, ie := 0x10, iflag := 0x10, sp := 0x0001 } [] [];
      s.cpu.pending ≠ 0 ∧ s.cpu.haltBug = true ∧ s.cpu.sp - 1 ≠ 0xFF0F ∧ s.cpu.sp - 2 ≠ 0xFF0F ∧
        platformTouches s 5 0xFF0F = false) := by decide

/-- EI with the latch clear, another instruction with it set, and DI with it set. -/
theorem test_witness_EiTakesEffectAfterNextInstruction :
    (let s := place start [0xFB] [];
      s.cpu.imeLatch = false ∧ s.fetchInstr.1 = .ei ∧ isNext s.runInstr = true) ∧
    (let s := place { start with imeLatch := true } [0xFB] [];
      s.cpu.imeLatch = true ∧ s.fetchInstr.1 ≠ .di ∧ isNext s.runInstr = true) ∧
    (let s := place { start with imeLatch := true } [0xF3] [];
      s.fetchInstr.1 = .di ∧ isNext s.runInstr = true) := by decide

theorem test_witness_HostTurnThenStep : State.reset.platform.host = [] := by decide

/-- A platform whose RAM holds a byte and whose host has something to do. -/
theorem test_witness_ResetStateIsLegal :
    let p : Platform := { Platform.powerOn with mem := [(0xC800, 0x5A)], host := [[.inputEdge true]] };
    p.mem.wf ∧ ∀ turn ∈ p.host, ∀ act ∈ turn, act.legal := by
  refine ⟨by decide, fun turn ht act ha => ?_⟩
  rw [List.mem_singleton] at ht
  subst ht
  rw [List.mem_singleton] at ha
  subst ha
  trivial

/-- A state with memory listed and a host action queued. -/
def busy : State :=
  { place { start with stopped := true, f := 0xF0 } [0x10, 0x00] [(0xC800, 0x5A)] with
    platform := { Platform.powerOn with
      mem := Memory.pokeAll [] [(0xC800, 0x5A)]
      host := [[.loadState true start, .inputEdge true]] } }

theorem busy_legal : busy.legal := by
  refine ⟨⟨by decide, ?_⟩, by decide, ?_⟩
  · unfold Cpu.oneWait
    decide
  · intro turn ht act ha
    simp only [busy, List.mem_singleton] at ht
    subst ht
    rcases List.mem_cons.1 ha with rfl | ha
    · refine ⟨by decide, ?_⟩
      unfold Cpu.oneWait
      decide
    · rw [List.mem_singleton] at ha
      subst ha
      trivial

theorem test_witness_StepKeepsStateLegal : busy.legal ∧ ∃ t, step busy = .next t :=
  ⟨busy_legal, next_of_isNext (by decide)⟩

theorem test_witness_EveryRunFromALegalStateIsSafe : busy.legal := busy_legal

/-- One instruction that meets every clause. -/
theorem test_witness_OnlyTheseInstructionsWriteControlState :
    isNext (exec .nop busy) = true ∧ Instr.nop ≠ .di ∧ Instr.nop ≠ .reti ∧ Instr.nop ≠ .ei ∧ Instr.nop ≠ .halt ∧
      Instr.nop ≠ .stop ∧ ∀ k, Instr.nop ≠ .unassigned k := by decide

theorem test_witness_BusSequenceOfEveryInstruction : ∃ t, (place start [0xCD, 0x00, 0xD0] []).runInstr = .next t :=
  next_of_isNext (by decide)

theorem test_witness_EveryInstructionTakesItsTableTime : ∃ t, (place start [0xC0] []).runInstr = .next t :=
  next_of_isNext (by decide)

/-- `op` stands at PC of the start state changed by `c`, and runs to a next state. -/
def runsAt (c : Cpu) (op : Byte) : Bool :=
  (place c [op] []).fetchOpcode.1 == op && isNext (place c [op] []).runInstr

/-- `Spends`: an opcode of each statement that uses it. -/
theorem test_witness_Spends : ([0x41, 0x36, 0xFA, 0x22, 0x01, 0x08, 0xE8, 0xC5, 0xF1, 0x80, 0x96, 0xF6, 0x34, 0x39] :
    List Byte).all (runsAt start) = true := by decide

theorem test_witness_Spends_rest : ([0x3B, 0x1F, 0xC3, 0xFF, 0xC9, 0xD9, 0xFB, 0x00, 0x27, 0x76, 0x10, 0xFD] :
    List Byte).all (runsAt start) = true := by decide

/-- `SpendsIf`: each condition holds in one state and does not in the other. -/
theorem test_witness_SpendsIf : (([0xC2, 0x38, 0xC4, 0xD8] : List Byte).all (runsAt start) &&
    ([0xC2, 0x38, 0xC4, 0xD8] : List Byte).all (runsAt { start with f := 0x90 })) = true := by decide

theorem test_witness_conditions : start.cond .nz = true ∧ start.cond .nc = true ∧ start.cond .z = false ∧
    start.cond .c = false ∧ Cpu.cond { start with f := 0x90 } .z = true ∧ Cpu.cond { start with f := 0x90 } .c = true ∧
    Cpu.cond { start with f := 0x90 } .nz = false ∧ Cpu.cond { start with f := 0x90 } .nc = false := by decide

/-- `SpendsCb`: an opcode of each statement that uses it. -/
theorem test_witness_SpendsCb : ([0x00, 0x1E, 0x37, 0x7E, 0x86, 0xFF] : List Byte).all (fun op2 =>
    (place start [0xCB, op2] []).fetchOpcode.1 == 0xCB && (place start [0xCB, op2] []).fetchOpcode.2.fetch8.1 == op2 &&
      isNext (place start [0xCB, op2] []).runInstr) = true := by decide

/-- HL = 0xC800. -/
def atC800 : State := place { start with h := 0xC8 } [] []

/-- A store, and its two neighbouring addresses. -/
theorem test_witness_InstructionsStoreOnlyWhereTheySay : (isNext (exec .ldAtHlA atC800) &&
    (storeAddrs .ldAtHlA atC800).all (fun b => cellOf b != cellOf 0xC7FF && cellOf b != cellOf 0xC801) &&
    !platformTouches atC800 1 0xC7FF && !platformTouches atC800 1 0xC801) = true := by decide

/-- A form that stores nothing, at its operand's address. -/
theorem test_witness_nothing_stored : (isNext (exec .cpAtHl atC800) && (storeAddrs .cpAtHl atC800 == []) &&
    !platformTouches atC800 1 0xC800) = true := by decide

/-- The first and last IF bit. -/
theorem test_witness_request_bits : 0 < 5 ∧ 4 < 5 ∧ platformTouches (place start [] []) 1 0xFF0F = false := by decide

theorem test_witness_CoreNeverReadsDebuggerState :
    let s := place start [0x77] [];
    let s' : State := { s with platform := { s.platform with trace := [.idle], debugging := true } };
    sameButDebugger s s' ∧ isNext s.specStep = true ∧ isNext s'.specStep = true :=
  ⟨rfl, by decide, by decide⟩

/-- `start` at T-cycle 8 with the host's queue `turns`. -/
def atCycle8 (turns : List (List HostAction)) : State :=
  { place { start with cycles := 8 } [0x00] [] with
    platform := { (place start [0x00] []).platform with host := turns } }

/-- The frame driver: the flag set, the core stopped, the budget just used up, a PC match, a breakpoint elsewhere, and
a budget with one T-cycle left. -/
theorem test_witness_frame_driver :
    (atCycle8 [[.setDebugging true]]).hostTurn.platform.debugging = true ∧
    (place { start with stopped := true } [] []).hostTurn.cpu.stopped = true ∧
    4 ≤ (atCycle8 []).hostTurn.cpu.cycles - 4 ∧
    (atCycle8 [[.breakpoint 0xC000]]).platform.host = [.breakpoint (atCycle8 []).cpu.pc] :: [] ∧
    ((0xC001 : Word) ≠ (atCycle8 []).cpu.pc ∧
      (atCycle8 [[.breakpoint 0xC001]]).platform.host = [.breakpoint 0xC001] :: []) ∧
    ((atCycle8 []).hostTurn.platform.debugging = false ∧ (atCycle8 []).hostTurn.cpu.stopped = false ∧
      (atCycle8 []).hostTurn.cpu.cycles - 4 < 5 ∧ isNext (step (atCycle8 [])) = true) := by decide

/-- The core's three bytes; a bus byte read as it stands; a bus byte the bus answers itself. -/
theorem test_witness_ReadAnswersCoreByteOrBus :
    ((regionOf 0xFFFF).coreOwned = true ∧ (regionOf 0xFF0F).coreOwned = true ∧ (regionOf 0xFF4D).coreOwned = true) ∧
    ((regionOf 0xFFFE).coreOwned = false ∧ (regionOf 0xFF0E).coreOwned = false ∧
      (place start [] []).cycleNow.readAs = none) ∧
    (({ place start [] [] with platform := { Platform.powerOn with script := [{ BusCycle.quiet with readAs := some 7 }] } }
      : State).cycleNow.readAs = some 7) := by decide

theorem test_witness_WriteChangesOnlyItsTarget :
    (0xFFFE : Word) ≠ 0xFFFF ∧ (0xFF4C : Word) ≠ 0xFF4D ∧ (0xFF10 : Word) ≠ 0xFF0F ∧
    cellOf 0xC801 ≠ cellOf 0xC800 ∧ cellOf 0xFFFF ≠ cellOf 0xFFFE ∧
    platformTouches (place start [] []) 1 0xC801 = false := by decide

/-- The written address itself: each of the core's bytes, and plain storage the platform does not touch. -/
theorem test_witness_write_lands :
    (regionOf 0xFFFF).coreOwned = true ∧ (regionOf 0xFF0F).coreOwned = true ∧ (regionOf 0xFF4D).coreOwned = true ∧
    ((place start [] []).platform.mem.wf ∧ platformTouches (place start [] []) 1 0x8000 = false ∧
      platformTouches (place start [] []) 1 0xFFFE = false ∧
      regionOf 0x8000 ∈ ([.videoRam, .workRam, .echoRam, .oam, .highRam] : List Region) ∧
      regionOf 0xFFFE ∈ ([.videoRam, .workRam, .echoRam, .oam, .highRam] : List Region)) := by decide

theorem test_witness_CoreOwnedBytesReadAndWrite :
    (onCgb (place start [] [])).model = .cgb ∧ (place start [] []).model = .dmg := by decide

/-- The first and last address of each region of the storing clause. -/
theorem test_witness_storing_regions : ([0x8000, 0x9FFF, 0xC000, 0xDFFF, 0xE000, 0xFDFF, 0xFE00, 0xFE9F, 0xFF80,
    0xFFFE] : List Word).all (fun a => decide (regionOf a ∈
      ([.videoRam, .workRam, .echoRam, .oam, .highRam] : List Region))) = true := by decide

/-- The first and last address of each region of the discarding clause. -/
theorem test_witness_discarding_regions : ([0x0000, 0x3FFF, 0x4000, 0x7FFF, 0xFEA0, 0xFEFF, 0xFF00, 0xFF7F] :
    List Word).all (fun a => decide (regionOf a ∈
      ([.romBank0, .romBankN, .unusable, .registerFile] : List Region))) = true := by decide

/-- External RAM with its latch on and off, a canonical memory, an echo address and its mirror. -/
theorem test_witness_PlainStorageReadsBack :
    (place start [] [(0xC800, 0x5A)]).platform.mem.wf ∧
    regionOf 0xA000 = .externalRam ∧ regionOf 0xBFFF = .externalRam ∧
    ({ place start [] [] with platform := { Platform.powerOn with ramEnabled := true } } : State).platform.ramEnabled =
      true ∧
    (place start [] []).platform.ramEnabled = false ∧
    cellOf 0xE123 = cellOf 0xC123 ∧ cellOf 0xE124 ≠ cellOf 0xC123 := by decide

theorem test_witness_MemoryFormIsCanonical :
    (let m : Memory := [(0x8000, 0x01), (0xFFFE, 0x02)];
      m.wf ∧ ∀ a, m.byteAt a = m.byteAt a) ∧
    Memory.isCell 0x0000 = true ∧ Memory.isCell 0xFFFE = true ∧ (0x0000 : Nat) ≠ 0xFFFE :=
  ⟨⟨by decide, fun _ => rfl⟩, by decide, by decide, by decide⟩

theorem test_witness_HaltHaltsOrSetsHaltBug :
    (let c : Cpu := { start with ie := 0x10, iflag := 0x10 };
      c.ime = false ∧ c.pending ≠ 0) ∧
    (let c : Cpu := { start with ime := true, ie := 0x10, iflag := 0x10 };
      ¬ (c.ime = false ∧ c.pending ≠ 0)) ∧
    ¬ (start.ime = false ∧ start.pending ≠ 0) := by decide

theorem test_witness_StopStopsOrSwitchesSpeed :
    (let s := onCgb (place { start with key1Prepare := true } [] []);
      s.model = .cgb ∧ s.cpu.key1Prepare = true) ∧
    (let s := onCgb (place start [] []);
      ¬ (s.model = .cgb ∧ s.cpu.key1Prepare = true)) ∧
    (let s := place { start with key1Prepare := true } [] [];
      ¬ (s.model = .cgb ∧ s.cpu.key1Prepare = true)) := by decide

/-- The bit clauses: first and last bit. -/
theorem test_witness_bit_clauses : 0 < 8 ∧ 7 < 8 := by decide

/-- Every opcode in the lists of NOP, CPL, SCF, CCF and of the unassigned. -/
theorem test_witness_opcode_lists : (0x3F : Byte) ∈ ([0x00, 0x2F, 0x37, 0x3F] : List Byte) ∧
    (0xFD : Byte) ∈ unassignedOpcodes := by decide

end Sys2Proof.Tests
end

section
/-! SUPPORT. The rules an instruction's proof starts from: an M-cycle keeps the registers (R11), what `decode` reads
where the primary map has an entry of a given shape (R150), and what a write of one 8-bit register sets. -/

namespace Sys2Proof.Machine

open Sys2Proof.Certificates

/-! ## M-cycles and registers -/

/-- The frame of a write, a read and an idle (R11), shared by every instruction statement. -/
theorem busCyclesKeepRegisters : BusCyclesKeepRegisters := by
  intro s a v
  refine ⟨⟨?_, Cpu.eq_of_fields ?_⟩, ⟨?_, Cpu.eq_of_fields ?_⟩, ⟨?_, Cpu.eq_of_fields ?_⟩⟩ <;> simp

theorem setsReg_setR8 (r : Reg8) (v : Byte) (c : Cpu) : SetsReg r v c (c.setR8 r v) := by
  cases r <;> rfl

/-! ## What decode reads, by the shape of the map's entry -/

theorem decode_one {op : Byte} {i : Instr} (h : primaryEntry op = .one i) (rest : List Byte) :
    decode (op :: rest) = .ok i rest := by
  simp only [decode, h]

theorem decode_imm8 {op : Byte} {f : Byte → Instr} (h : primaryEntry op = .imm8 f) (v : Byte) (rest : List Byte) :
    decode (op :: v :: rest) = .ok (f v) rest := by
  simp only [decode, h]

theorem decode_imm16 {op : Byte} {f : Word → Instr} (h : primaryEntry op = .imm16 f) (lo hi : Byte)
    (rest : List Byte) : decode (op :: lo :: hi :: rest) = .ok (f (hi ++ lo)) rest := by
  simp only [decode, h, wordOf]

end Sys2Proof.Machine
end

section
/-! PROOFS. The 8-bit loads and stores (41_load8.md R201 to R219). First what the shared meanings answer (`storeTo`
answers its one write by definition), then decode and the bus sequence of the forms that name a register, then the
four statements. -/

namespace Sys2Proof.Machine

open Sys2Proof.Certificates

/-! ## What the shared meanings answer -/

theorem loadReg_setsReg (dst src : Reg8) (s : State) :
    ∃ c', loadReg dst src s = .next { s with cpu := c' } ∧ SetsReg dst (s.cpu.r8 src) s.cpu c' :=
  ⟨_, rfl, setsReg_setR8 ..⟩

theorem loadImm_setsReg (dst : Reg8) (v : Byte) (s : State) :
    ∃ c', loadImm dst v s = .next { s with cpu := c' } ∧ SetsReg dst v s.cpu c' :=
  ⟨_, rfl, setsReg_setR8 ..⟩

theorem loadFrom_setsReg (dst : Reg8) (addr : Word) (s : State) :
    ∃ c', loadFrom dst addr s = .next { s.afterRead addr with cpu := c' } ∧
      SetsReg dst (s.read addr) (s.afterRead addr).cpu c' :=
  ⟨_, rfl, setsReg_setR8 ..⟩

theorem loadFrom_a (addr : Word) (s : State) : loadFrom .a addr s =
    .next { s.afterRead addr with cpu := { (s.afterRead addr).cpu with a := s.read addr } } := rfl

/-- HL moves from its value before the write, since the write keeps H and L. -/
theorem storeAStep_eq (step : Word) (s : State) : storeAStep step s =
    .next ((s.write s.cpu.hl s.cpu.a).onCpu fun c => c.setHl (s.cpu.hl + step)) := by
  have hl : (s.write s.cpu.hl s.cpu.a).cpu.hl = s.cpu.hl := by simp [Cpu.hl]
  simp only [storeAStep, State.onCpu, hl]

/-- HL moves from its value before the read, since neither the read nor the load of A changes H or L. -/
theorem loadAStep_eq (step : Word) (s : State) : loadAStep step s =
    .next ((s.afterRead s.cpu.hl).onCpu fun c => { c with a := s.read s.cpu.hl }.setHl (s.cpu.hl + step)) := by
  have hl : (s.afterRead s.cpu.hl).cpu.hl = s.cpu.hl := by simp [Cpu.hl]
  simp only [loadAStep, State.onCpu, hl]

/-! ## Decode and bus sequence of the forms that name a register -/

theorem decode_ldReg (dst src : Reg8) (rest : List Byte) :
    decode (pat 0b01 (regField dst) (regField src) :: rest) = .ok (.ldReg dst src) rest :=
  decode_one (by cases dst <;> cases src <;> rfl) rest

theorem decode_ldImm (dst : Reg8) (v : Byte) (rest : List Byte) :
    decode (pat 0b00 (regField dst) 0b110 :: v :: rest) = .ok (.ldImm dst v) rest :=
  decode_imm8 (by cases dst <;> rfl) v rest

theorem decode_ldRegAtHl (dst : Reg8) (rest : List Byte) :
    decode (pat 0b01 (regField dst) 0b110 :: rest) = .ok (.ldRegAtHl dst) rest :=
  decode_one (by cases dst <;> rfl) rest

theorem decode_ldAtHlReg (src : Reg8) (rest : List Byte) :
    decode (pat 0b01 0b110 (regField src) :: rest) = .ok (.ldAtHlReg src) rest :=
  decode_one (by cases src <;> rfl) rest

theorem spends_ldReg (dst src : Reg8) : Spends (pat 0b01 (regField dst) (regField src)) [.f] := by
  cases dst <;> cases src <;> exact spends_of (by decide) rfl rfl

theorem spends_ldImm (dst : Reg8) : Spends (pat 0b00 (regField dst) 0b110) [.f, .f8] := by
  cases dst <;> exact spends_of (by decide) rfl rfl

theorem spends_ldRegAtHl (dst : Reg8) : Spends (pat 0b01 (regField dst) 0b110) [.f, .r] := by
  cases dst <;> exact spends_of (by decide) rfl rfl

theorem spends_ldAtHlReg (src : Reg8) : Spends (pat 0b01 0b110 (regField src)) [.f, .w] := by
  cases src <;> exact spends_of (by decide) rfl rfl

/-! ## The statements -/

/-- Settles O31 (R201 to R203). -/
theorem ldRegLoadsRegImmAndMemory : Obligations.LdRegLoadsRegImmAndMemory := by
  unfold Obligations.LdRegLoadsRegImmAndMemory
  refine ⟨busCyclesKeepRegisters, fun c => ⟨rfl, rfl, rfl, rfl, rfl, rfl, rfl⟩, spends_ldReg,
    fun dst => ⟨spends_ldImm dst, spends_ldRegAtHl dst⟩, fun dst src s rest => ⟨decode_ldReg dst src rest, ?_⟩,
    fun dst v s rest => ⟨decode_ldImm dst v rest, ?_⟩, fun dst s rest => ⟨decode_ldRegAtHl dst rest, ?_⟩⟩
  · rw [exec_ldReg]
    exact loadReg_setsReg dst src s
  · rw [exec_ldImm]
    exact loadImm_setsReg dst v s
  · rw [exec_ldRegAtHl]
    exact loadFrom_setsReg dst s.cpu.hl s

/-- Settles O32 (R204, R205, R208, R209, R211, R213, R215). -/
theorem ldStoresToMemory : Obligations.LdStoresToMemory := by
  unfold Obligations.LdStoresToMemory
  refine ⟨busCyclesKeepRegisters, spends_ldAtHlReg, ?_, ?_, ?_, ?_, ?_, ?_,
    fun r s rest => ⟨decode_ldAtHlReg r rest, exec_ldAtHlReg r s⟩,
    fun v s rest => ⟨decode_imm8 rfl v rest, exec_ldAtHlImm v s⟩,
    fun s lo hi o rest => ⟨⟨decode_one rfl rest, exec_ldAtBcA s⟩, ⟨decode_one rfl rest, exec_ldAtDeA s⟩,
      ⟨decode_imm16 rfl lo hi rest, exec_ldAtAddrA (hi ++ lo) s⟩, ⟨decode_imm8 rfl o rest, exec_ldhAtOffA o s⟩,
      ⟨decode_one rfl rest, exec_ldAtCA s⟩⟩⟩
  all_goals exact spends_of (by decide) rfl rfl

/-- Settles O33 (R206, R207, R210, R212, R214). -/
theorem ldAFromIndirectReads : Obligations.LdAFromIndirectReads := by
  unfold Obligations.LdAFromIndirectReads
  refine ⟨busCyclesKeepRegisters, ?_, ?_, ?_, ?_, ?_, fun s lo hi o rest =>
    ⟨⟨decode_one rfl rest, (exec_ldAAtBc s).trans (loadFrom_a ..)⟩,
      ⟨decode_one rfl rest, (exec_ldAAtDe s).trans (loadFrom_a ..)⟩,
      ⟨decode_imm16 rfl lo hi rest, (exec_ldAAtAddr (hi ++ lo) s).trans (loadFrom_a ..)⟩,
      ⟨decode_imm8 rfl o rest, (exec_ldhAAtOff o s).trans (loadFrom_a ..)⟩,
      ⟨decode_one rfl rest, (exec_ldAAtC s).trans (loadFrom_a ..)⟩⟩⟩
  all_goals exact spends_of (by decide) rfl rfl

/-- Settles O34 (R216 to R219). The decrements add -1, which is the subtraction of 1 modulo 2^16. -/
theorem ldHlIncrementAndDecrement : Obligations.LdHlIncrementAndDecrement := by
  unfold Obligations.LdHlIncrementAndDecrement
  refine ⟨busCyclesKeepRegisters, spends_of (by decide) rfl rfl, spends_of (by decide) rfl rfl,
    spends_of (by decide) rfl rfl, spends_of (by decide) rfl rfl, fun s rest => ?_⟩
  intro hl moved loaded
  have hdec : hl - 1 = hl + -1 := BitVec.sub_eq_add_neg hl 1
  rw [hdec]
  exact ⟨⟨decode_one rfl rest, (exec_ldAtHlIncA s).trans (storeAStep_eq 1 s)⟩,
    ⟨decode_one rfl rest, (exec_ldAtHlDecA s).trans (storeAStep_eq (-1) s)⟩,
    ⟨decode_one rfl rest, (exec_ldAAtHlInc s).trans (loadAStep_eq 1 s)⟩,
    ⟨decode_one rfl rest, (exec_ldAAtHlDec s).trans (loadAStep_eq (-1) s)⟩⟩

end Sys2Proof.Machine
end

section
/-! SUPPORT. A push and a pop in the words of the statements (R12): `push16` and `pop16` read SP anew for each byte,
`pushed` and `popped` form both addresses from the SP at the start. Then what a write of a register pair sets. -/

namespace Sys2Proof.Machine

open Sys2Proof.Certificates

/-- The first write keeps SP, so the second byte goes one below the first. -/
theorem push16_eq_pushed (s : State) (v : Word) : s.push16 v = pushed s v := by
  have hsp : (s.push8 (hiByte v)).cpu.sp - 1 = s.cpu.sp - 2 := by
    simp [BitVec.sub_sub]
  unfold pushed
  rw [← hsp]
  rfl

theorem pushed_sp (s : State) (v : Word) : (pushed s v).cpu.sp = s.cpu.sp - 2 := by
  simp [← push16_eq_pushed]

/-- The first read keeps SP, so the second byte comes from one above the first. -/
theorem pop16_eq_popped (s : State) : s.pop16 = (poppedValue s, popped s) := by
  have hsp : s.cpu.sp + 1 + 1 = s.cpu.sp + 2 := BitVec.add_assoc ..
  unfold popped
  rw [← hsp]
  rfl

theorem popped_sp (s : State) : (popped s).cpu.sp = s.cpu.sp + 2 := rfl

theorem setsPair_setPair (p : Pair) (v : Word) (c : Cpu) : SetsPair p v c (c.setPair p v) := by
  cases p <;> rfl

end Sys2Proof.Machine
end

section
/-! PROOFS. The 16-bit loads and the stack instructions (42_load16_stack.md R250, R252, R254 to R256). First what the
shared meanings answer, then decode and the bus sequence of the forms that name a pair, then the three statements. -/

namespace Sys2Proof.Machine

open Sys2Proof.Certificates

/-! ## What the shared meanings answer -/

theorem loadPair_setsPair (p : Pair) (v : Word) (s : State) :
    ∃ c', loadPair p v s = .next { s with cpu := c' } ∧ SetsPair p v s.cpu c' :=
  ⟨_, rfl, setsPair_setPair ..⟩

theorem pushPair_eq (p : StackPair) (s : State) :
    pushPair p s = .next (pushed s.idle (s.cpu.stackPair p)) := by
  rw [pushPair, push16_eq_pushed]

theorem popPair_eq (p : StackPair) (s : State) :
    popPair p s = .next { popped s with cpu := (popped s).cpu.setStackPair p (poppedValue s) } := by
  rw [popPair, pop16_eq_popped, State.onCpu]

/-! ## Decode and bus sequence of the forms that name a pair -/

theorem decode_ldPairImm (p : Pair) (lo hi : Byte) (rest : List Byte) :
    decode (patP 0b00 (pairField p) 0b0 0b001 :: lo :: hi :: rest) = .ok (.ldPairImm p (hi ++ lo)) rest :=
  decode_imm16 (by cases p <;> rfl) lo hi rest

theorem decode_push (p : StackPair) (rest : List Byte) :
    decode (patP 0b11 (stackPairField p) 0b0 0b101 :: rest) = .ok (.push p) rest :=
  decode_one (by cases p <;> rfl) rest

theorem decode_pop (p : StackPair) (rest : List Byte) :
    decode (patP 0b11 (stackPairField p) 0b0 0b001 :: rest) = .ok (.pop p) rest :=
  decode_one (by cases p <;> rfl) rest

theorem spends_ldPairImm (p : Pair) : Spends (patP 0b00 (pairField p) 0b0 0b001) [.f, .f8, .f8] := by
  cases p <;> exact spends_of (by decide) rfl rfl

theorem spends_push (p : StackPair) : Spends (patP 0b11 (stackPairField p) 0b0 0b101) [.f, .i, .w, .w] := by
  cases p <;> exact spends_of (by decide) rfl rfl

theorem spends_pop (p : StackPair) : Spends (patP 0b11 (stackPairField p) 0b0 0b001) [.f, .r, .r] := by
  cases p <;> exact spends_of (by decide) rfl rfl

/-! ## The statements -/

/-- Settles O35 (R250, R252). -/
theorem ldPairFromImmediateAndHl : Obligations.LdPairFromImmediateAndHl := by
  unfold Obligations.LdPairFromImmediateAndHl
  refine ⟨busCyclesKeepRegisters, spends_ldPairImm, spends_of (by decide) rfl rfl, fun c => ⟨rfl, rfl, rfl, rfl⟩,
    fun p lo hi s rest => ⟨decode_ldPairImm p lo hi rest, ?_⟩,
    fun s rest => ⟨decode_one rfl rest, exec_ldSpHl s⟩⟩
  rw [exec_ldPairImm]
  exact loadPair_setsPair p (hi ++ lo) s

/-- Settles O38 (R254). Idle keeps SP, so both addresses are formed from the SP before the instruction. -/
theorem pushStoresHighThenLow : Obligations.PushStoresHighThenLow := by
  unfold Obligations.PushStoresHighThenLow
  refine ⟨busCyclesKeepRegisters, spends_push, fun c => ⟨rfl, rfl, rfl, rfl⟩,
    fun p s rest => ⟨decode_push p rest, (exec_push p s).trans (pushPair_eq p s), ?_⟩⟩
  simp [pushed_sp]

/-- Settles O39 (R255, R256). -/
theorem popLoadsLowThenHigh : Obligations.PopLoadsLowThenHigh := by
  unfold Obligations.PopLoadsLowThenHigh
  refine ⟨busCyclesKeepRegisters, spends_pop, fun p s rest =>
    ⟨decode_pop p rest, _, (exec_pop p s).trans (popPair_eq p s), popped_sp s, ?_⟩⟩
  cases p <;> rfl

end Sys2Proof.Machine
end

section
/-! SUPPORT. What the result of an 8-bit function leaves in the core, in the words of the statements: the flags read
back from the packed F (R42, R43), the register that takes the result, and that nothing else changes. -/

namespace Sys2Proof.Machine

open Sys2Proof.Certificates

/-- The four flags an 8-bit function gives are the flags of the core it is put in. -/
theorem flagsAre_putFlags (c : Cpu) {o : Out8} {z n h cy : Prop} (hz : o.z = true ↔ z) (hn : o.n = true ↔ n)
    (hh : o.h = true ↔ h) (hc : o.c = true ↔ cy) : FlagsAre (c.putFlags o) z n h cy := by
  obtain ⟨bit7, bit6, bit5, bit4, low⟩ := packFlags_bits o.z o.n o.h o.c
  have hf : (c.putFlags o).f = packFlags o.z o.n o.h o.c := rfl
  rw [FlagsAre, hf, bit7, bit6, bit5, bit4]
  exact ⟨hz, hn, hh, hc, low⟩

theorem onlyF_putFlags (c : Cpu) (o : Out8) : OnlyF c (c.putFlags o) := rfl

theorem onlyAF_putR8 (c : Cpu) (o : Out8) : OnlyAF c (c.putR8 .a o) := rfl

theorem onlyRegF_putR8 (r : Reg8) (c : Cpu) (o : Out8) : OnlyRegF r c (c.putR8 r o) := by
  cases r <;> rfl

theorem r8_putR8 (c : Cpu) (r : Reg8) (o : Out8) : (c.putR8 r o).r8 r = o.value := by
  cases r <;> rfl

end Sys2Proof.Machine
end

section
/-! PROOFS. The 8-bit arithmetic and logic (43_alu8.md R300 to R328). First what the functions of the ALU give in
exact arithmetic, then the operand forms shared by the eight operations and the encodings of INC and DEC, then the
four statements. -/

namespace Sys2Proof.Machine

open Sys2Proof.Certificates

/-! ## The functions in exact arithmetic -/

/-- R304; R301 is its case without a carry. -/
theorem addsWith_adc8 (cin : Bool) (c : Cpu) (v : Byte) :
    AddsWith cin.toNat c v (c.putR8 .a (adc8 c.a v cin)) :=
  ⟨BitVec.toNat_ofNat .., onlyAF_putR8 .., flagsAre_putFlags _ decide_eq_true_iff Bool.false_eq_true.to_iff
    decide_eq_true_iff decide_eq_true_iff⟩

/-- The flags of R310, apart from the result byte and from the core they are put in: CP keeps A and takes them too. -/
theorem subtractFlags_sbc8 (cin : Bool) (c d : Cpu) (v w : Byte) :
    SubtractFlags cin.toNat c v (d.putFlags { sbc8 c.a v cin with value := w }) :=
  flagsAre_putFlags d decide_eq_true_iff (by simp [sbc8]) decide_eq_true_iff decide_eq_true_iff

/-- R310; R307 is its case without a borrow. The exact difference may be negative, its residue is not. -/
theorem subtractsWith_sbc8 (cin : Bool) (c : Cpu) (v : Byte) :
    SubtractsWith cin.toNat c v (c.putR8 .a (sbc8 c.a v cin)) := by
  refine ⟨?_, onlyAF_putR8 .., subtractFlags_sbc8 ..⟩
  have hr : 0 ≤ ((c.a.toNat : Int) - v.toNat - cin.toNat) % 256 := Int.emod_nonneg _ (by decide)
  exact (congrArg Nat.cast (BitVec.toNat_ofInt ..)).trans (Int.toNat_of_nonneg hr)

/-- R322. -/
theorem compares_cp8 (c : Cpu) (v : Byte) : Compares c v (c.putR8 .a (cp8 c.a v)) :=
  ⟨rfl, subtractFlags_sbc8 false ..⟩

/-- A result whose bits are `f`'s, Z from the result, N = C = 0 (R313, R316, R319). -/
theorem bitwiseWith_putR8 {f : Bool → Bool → Bool} {half : Prop} {c : Cpu} {v : Byte} {o : Out8}
    (hv : ∀ k < 8, o.value.getLsbD k = f (c.a.getLsbD k) (v.getLsbD k)) (hz : o.z = (o.value == 0))
    (hn : o.n = false) (hh : o.h = true ↔ half) (hc : o.c = false) : BitwiseWith f half c v (c.putR8 .a o) :=
  ⟨hv, onlyAF_putR8 .., flagsAre_putFlags _ (hz ▸ beq_iff_eq) (by simp [hn]) hh (by simp [hc])⟩

/-- R325: Z from the result, H from a carry out of the low nibble, C as it was. -/
theorem flagsAre_inc8 (c : Cpu) (v : Byte) (cin : Bool) :
    FlagsAre (c.putFlags (inc8 v cin)) ((v.toNat + 1) % 256 = 0) False (v.toNat % 16 = 15) (cin = true) := by
  refine flagsAre_putFlags c ?_ Bool.false_eq_true.to_iff decide_eq_true_iff Iff.rfl
  simp [inc8, ← BitVec.toNat_inj]

/-- R327: Z from the result, H from a borrow into the low nibble, C as it was. -/
theorem flagsAre_dec8 (c : Cpu) (v : Byte) (cin : Bool) :
    FlagsAre (c.putFlags (dec8 v cin)) (v.toNat = 1) True (v.toNat % 16 = 0) (cin = true) := by
  refine flagsAre_putFlags c ?_ (by simp [dec8]) decide_eq_true_iff Iff.rfl
  simp only [dec8, beq_iff_eq]
  bv_omega

/-! ## The operand forms and the encodings -/

/-- One statement about `Cpu.alu` gives the three operand forms (R300), their decoding and their cycles. -/
theorem aluForms_of {op : AluOp} {effect : Cpu → Byte → Cpu → Prop} (h : ∀ c v, effect c v (c.alu op v)) :
    AluForms op effect := by
  refine ⟨busCyclesKeepRegisters, fun r => ?_, ?_, ?_,
    fun r s rest => ⟨decode_one ?_ rest, _, exec_aluReg op r s, h ..⟩,
    fun s rest => ⟨decode_one ?_ rest, _, exec_aluAtHl op s, h ..⟩,
    fun v s rest => ⟨decode_imm8 (f := .aluImm op) ?_ v rest, _, exec_aluImm op v s, h ..⟩⟩
  · cases op <;> cases r <;> exact spends_of (by decide) rfl rfl
  · cases op <;> exact spends_of (by decide) rfl rfl
  · cases op <;> exact spends_of (by decide) rfl rfl
  · cases op <;> cases r <;> rfl
  · cases op <;> rfl
  · cases op <;> rfl

theorem decode_incReg (r : Reg8) (rest : List Byte) :
    decode (pat 0b00 (regField r) 0b100 :: rest) = .ok (.incReg r) rest :=
  decode_one (by cases r <;> rfl) rest

theorem decode_decReg (r : Reg8) (rest : List Byte) :
    decode (pat 0b00 (regField r) 0b101 :: rest) = .ok (.decReg r) rest :=
  decode_one (by cases r <;> rfl) rest

theorem spends_incReg (r : Reg8) : Spends (pat 0b00 (regField r) 0b100) [.f] := by
  cases r <;> exact spends_of (by decide) rfl rfl

theorem spends_decReg (r : Reg8) : Spends (pat 0b00 (regField r) 0b101) [.f] := by
  cases r <;> exact spends_of (by decide) rfl rfl

/-! ## The statements -/

/-- Settles O40 (R301 to R306). -/
theorem addAdcSumIntoA : Obligations.AddAdcSumIntoA := by
  unfold Obligations.AddAdcSumIntoA
  exact ⟨aluForms_of (addsWith_adc8 false), aluForms_of fun c => addsWith_adc8 c.flagC c⟩

/-- Settles O41 (R307 to R312, R322 to R324). -/
theorem subSbcCpSubtractFromA : Obligations.SubSbcCpSubtractFromA := by
  unfold Obligations.SubSbcCpSubtractFromA
  exact ⟨aluForms_of (subtractsWith_sbc8 false), aluForms_of fun c => subtractsWith_sbc8 c.flagC c,
    aluForms_of compares_cp8⟩

/-- Settles O42 (R313 to R321). -/
theorem logicOperationsIntoA : Obligations.LogicOperationsIntoA := by
  unfold Obligations.LogicOperationsIntoA
  refine ⟨aluForms_of fun c v => bitwiseWith_putR8 (fun k _ => BitVec.getLsbD_and) rfl rfl ?_ rfl,
    aluForms_of fun c v => bitwiseWith_putR8 (fun k _ => BitVec.getLsbD_xor) rfl rfl ?_ rfl,
    aluForms_of fun c v => bitwiseWith_putR8 (fun k _ => BitVec.getLsbD_or) rfl rfl ?_ rfl⟩
  · simp [aluOut, and8]
  · simp [aluOut, xor8]
  · simp [aluOut, or8]

/-- Settles O43 (R325 to R328). -/
theorem incDecByteKeepsCarry : Obligations.IncDecByteKeepsCarry := by
  unfold Obligations.IncDecByteKeepsCarry
  refine ⟨busCyclesKeepRegisters, fun r => ⟨spends_incReg r, spends_decReg r⟩, spends_of (by decide) rfl rfl,
    spends_of (by decide) rfl rfl,
    fun r s rest => ⟨decode_incReg r rest, _, exec_incReg r s, onlyRegF_putR8 .., ?_, flagsAre_inc8 ..⟩,
    fun r s rest => ⟨decode_decReg r rest, _, exec_decReg r s, onlyRegF_putR8 .., ?_, flagsAre_dec8 ..⟩,
    fun s rest => ⟨⟨decode_one rfl rest, _, exec_incAtHl s, onlyF_putFlags .., flagsAre_inc8 ..⟩,
      ⟨decode_one rfl rest, _, exec_decAtHl s, onlyF_putFlags .., flagsAre_dec8 ..⟩⟩⟩
  · rw [r8_putR8]
    exact BitVec.toNat_add ..
  · rw [r8_putR8, Nat.add_comm]
    exact BitVec.toNat_sub ..

end Sys2Proof.Machine
end

section
/-! PROOFS. The 16-bit arithmetic on register pairs (44_alu16.md R350 to R352). First what the shared meanings answer,
then decode and the bus sequence of the forms, then the two statements. -/

namespace Sys2Proof.Machine

open Sys2Proof.Certificates

/-! ## What the shared meanings answer -/

theorem hl_setHl (c : Cpu) (v : Word) : (c.setHl v).hl = v := Cpu.pair_setPair c .hl v

/-- The core after ADD HL,rr (R350): the exact sum is narrowed, while H and C look at its carries out of bits 11 and
15. Both operands are read before HL changes, so ADD HL,HL is no special case. -/
theorem addToHl_effect (p : Pair) (s : State) :
    ∃ c', addToHl p s = .next (State.idle { s with cpu := c' }) ∧
      c'.hl.toNat = (s.cpu.hl.toNat + (s.cpu.pair p).toNat) % 65536 ∧
      FlagsAre c' (s.cpu.flagZ = true) False (s.cpu.hl.toNat % 4096 + (s.cpu.pair p).toNat % 4096 > 4095)
        (s.cpu.hl.toNat + (s.cpu.pair p).toNat > 65535) ∧
      c' = { s.cpu with h := c'.h, l := c'.l, f := c'.f } := by
  refine ⟨_, rfl, ?_, flagsAre_setFlags _ Iff.rfl Bool.false_eq_true.to_iff decide_eq_true_iff decide_eq_true_iff,
    rfl⟩
  exact (congrArg BitVec.toNat (hl_setHl s.cpu _)).trans (BitVec.toNat_add ..)

theorem stepPair_setsPair (p : Pair) (step : Word) (s : State) :
    ∃ c', stepPair p step s = .next (State.idle { s with cpu := c' }) ∧
      SetsPair p (s.cpu.pair p + step) s.cpu c' :=
  ⟨_, rfl, setsPair_setPair ..⟩

/-! ## Decode and bus sequence of the forms -/

theorem decode_addHlPair (p : Pair) (rest : List Byte) :
    decode (patP 0b00 (pairField p) 0b1 0b001 :: rest) = .ok (.addHlPair p) rest :=
  decode_one (by cases p <;> rfl) rest

theorem decode_incPair (p : Pair) (rest : List Byte) :
    decode (patP 0b00 (pairField p) 0b0 0b011 :: rest) = .ok (.incPair p) rest :=
  decode_one (by cases p <;> rfl) rest

theorem decode_decPair (p : Pair) (rest : List Byte) :
    decode (patP 0b00 (pairField p) 0b1 0b011 :: rest) = .ok (.decPair p) rest :=
  decode_one (by cases p <;> rfl) rest

theorem spends_addHlPair (p : Pair) : Spends (patP 0b00 (pairField p) 0b1 0b001) [.f, .i] := by
  cases p <;> exact spends_of (by decide) rfl rfl

/-- `q` is the bit that tells DEC rr from INC rr. -/
theorem spends_stepPair (p : Pair) (q : BitVec 1) : Spends (patP 0b00 (pairField p) q 0b011) [.f, .i] := by
  obtain rfl | rfl : q = 0 ∨ q = 1 := by
    revert q
    decide
  all_goals cases p <;> exact spends_of (by decide) rfl rfl

/-! ## The statements -/

/-- Settles O44 (R350). -/
theorem addHlKeepsZ : Obligations.AddHlKeepsZ := by
  unfold Obligations.AddHlKeepsZ
  refine ⟨busCyclesKeepRegisters, spends_addHlPair, fun p s rest => ⟨decode_addHlPair p rest, ?_⟩⟩
  rw [exec_addHlPair]
  exact addToHl_effect p s

/-- Settles O45 (R351, R352). The decrement adds -1, which is the subtraction of 1 modulo 2^16. -/
theorem incDecPairChangesNoFlag : Obligations.IncDecPairChangesNoFlag := by
  unfold Obligations.IncDecPairChangesNoFlag
  refine ⟨busCyclesKeepRegisters, spends_stepPair,
    fun p s rest => ⟨⟨decode_incPair p rest, ?_⟩, ⟨decode_decPair p rest, ?_⟩⟩⟩
  · rw [exec_incPair]
    exact stepPair_setsPair p 1 s
  · have hdec : s.cpu.pair p - 1 = s.cpu.pair p + -1 := BitVec.sub_eq_add_neg ..
    rw [exec_decPair, hdec]
    exact stepPair_setsPair p (-1) s

end Sys2Proof.Machine
end

section
/-! SUPPORT. The rules the CB instructions' proofs start from (R150, R588), then a byte as arithmetic: its two end
bits, and two bytes put together without overlap. -/

namespace Sys2Proof.Machine

open Sys2Proof.Certificates

theorem decode_cb {op2 : Byte} {i : Instr} (h : cbEntry op2 = i) (rest : List Byte) :
    decode (0xCB :: op2 :: rest) = .ok i rest :=
  congrArg (Decoded.ok · rest) h

theorem spendsCb_of {op2 : Byte} {seq : List BusLetter} (h : cbSequence op2 = seq) : SpendsCb op2 seq :=
  h ▸ spendsCb_all op2

theorem bit0_iff_odd (v : Byte) : v.getLsbD 0 = true ↔ v.toNat % 2 = 1 := by
  rw [BitVec.getLsbD, Nat.testBit_zero, decide_eq_true_iff]

theorem bit7_iff_le (v : Byte) : v.getLsbD 7 = true ↔ 128 ≤ v.toNat := by
  have hlast : v.getLsbD 7 = decide (128 ≤ v.toNat) := BitVec.getLsbD_last v
  rw [hlast, decide_eq_true_iff]

theorem bit0_toNat (v : Byte) : (v.getLsbD 0).toNat = v.toNat % 2 := by
  rw [BitVec.getLsbD, Nat.toNat_testBit, Nat.pow_zero, Nat.div_one]

theorem bit7_toNat (v : Byte) : (v.getLsbD 7).toNat = v.toNat / 128 := by
  have hlt := v.isLt
  have hbit : (v.getLsbD 7).toNat = v.toNat / 2 ^ 7 % 2 := Nat.toNat_testBit v.toNat 7
  omega

/-- Where one byte has only bits from `i` up and the other only bits below `i`, OR is addition. -/
theorem toNat_or_of_lt {i a : Nat} {x y : Byte} (hx : x.toNat = 2 ^ i * a) (hy : y.toNat < 2 ^ i) :
    (x ||| y).toNat = 2 ^ i * a + y.toNat := by
  rw [BitVec.toNat_or, hx, Nat.two_pow_add_eq_or_of_lt hy]

end Sys2Proof.Machine
end

section
/-! PROOFS. The rotates, shifts and SWAP (45_rotate_shift.md R380 to R400). First the byte and the carry of each
operation in exact arithmetic: a left move takes a bit in at the bottom, a right move takes one in at the top, SWAP
exchanges the halves. Then the operand forms, then the three statements. -/

namespace Sys2Proof.Machine

open Sys2Proof.Certificates

/-! ## The functions in exact arithmetic -/

theorem shiftLeft_insert_toNat (v : Byte) (b : Bool) :
    (v <<< 1 ||| (BitVec.ofBool b).setWidth 8).toNat = 2 * v.toNat % 256 + b.toNat := by
  have hbit : ((BitVec.ofBool b).setWidth 8).toNat = b.toNat := by cases b <;> rfl
  have hmove : (v <<< 1).toNat = 2 ^ 1 * (v.toNat % 128) := by
    rw [BitVec.toNat_shiftLeft, Nat.shiftLeft_eq]
    omega
  rw [toNat_or_of_lt hmove (hbit ▸ b.toNat_lt), hbit]
  omega

theorem shiftRight_insert_toNat (v : Byte) (b : Bool) :
    (v >>> 1 ||| (BitVec.ofBool b).setWidth 8 <<< 7).toNat = v.toNat / 2 + 128 * b.toNat := by
  have hlt := v.isLt
  have hbit : ((BitVec.ofBool b).setWidth 8 <<< 7 : Byte).toNat = 2 ^ 7 * b.toNat := by cases b <;> rfl
  have hmove : (v >>> 1).toNat = v.toNat / 2 := by
    rw [BitVec.toNat_ushiftRight, Nat.shiftRight_eq_div_pow]
  rw [BitVec.or_comm, toNat_or_of_lt hbit (by omega), hmove]
  omega

theorem swapHalves_toNat (v : Byte) : (v <<< 4 ||| v >>> 4).toNat = 16 * (v.toNat % 16) + v.toNat / 16 := by
  have hlt := v.isLt
  have hhigh : (v <<< 4).toNat = 2 ^ 4 * (v.toNat % 16) := by
    rw [BitVec.toNat_shiftLeft, Nat.shiftLeft_eq]
    omega
  have hlow : (v >>> 4).toNat = v.toNat / 16 := by
    rw [BitVec.toNat_ushiftRight, Nat.shiftRight_eq_div_pow]
  rw [toNat_or_of_lt hhigh (by omega), hlow]
  omega

/-- Bit 7 alone, as SRA keeps it (R395). -/
theorem and_0x80_eq (v : Byte) : v &&& (0x80 : Byte) = (BitVec.ofBool (v.getLsbD 7)).setWidth 8 <<< 7 := by
  ext k hk
  interval_cases k <;> simp

theorem shiftCore_toNat (op : ShiftOp) (v : Byte) (cin : Bool) :
    (shiftCore op v cin).1.toNat = shiftResult op v.toNat cin.toNat := by
  cases op with
  | rlc => exact (shiftLeft_insert_toNat v _).trans (congrArg _ (bit7_toNat v))
  | rrc => exact (shiftRight_insert_toNat v _).trans (by rw [bit0_toNat]; rfl)
  | rl => exact shiftLeft_insert_toNat v cin
  | rr => exact shiftRight_insert_toNat v cin
  | sla => simpa [shiftCore, shiftResult] using shiftLeft_insert_toNat v false
  | sra =>
    simp only [shiftCore, shiftResult]
    rw [and_0x80_eq, shiftRight_insert_toNat, bit7_toNat]
  | swap => exact swapHalves_toNat v
  | srl => simpa [shiftCore, shiftResult] using shiftRight_insert_toNat v false

theorem shiftCore_carry (op : ShiftOp) (v : Byte) (cin : Bool) :
    (shiftCore op v cin).2 = true ↔ shiftCarry op v.toNat := by
  cases op with
  | rlc | rl | sla => exact bit7_iff_le v
  | rrc | rr | sra | srl => exact bit0_iff_odd v
  | swap => exact Bool.false_eq_true.to_iff

/-- R380, in whatever core the flags are put. -/
theorem shiftFlags_shift8 (op : ShiftOp) (v : Byte) (cin : Bool) (c : Cpu) :
    ShiftFlags op v cin.toNat (c.putFlags (shift8 op v cin)) := by
  refine flagsAre_putFlags c ?_ Bool.false_eq_true.to_iff Bool.false_eq_true.to_iff (shiftCore_carry op v cin)
  rw [← shiftCore_toNat]
  exact beq_iff_eq.trans BitVec.toNat_eq

/-! ## The operand forms -/

/-- What an instruction that means a rotate of A leaves (R381 to R384). -/
theorem rotatesA_of_exec {op : ShiftOp} {i : Instr} {s : State} (h : exec i s = rotateA op s) :
    ∃ c', exec i s = .next { s with cpu := c' } ∧ OnlyAF s.cpu c' ∧
      c'.a.toNat = shiftResult op s.cpu.a.toNat s.cpu.flagC.toNat ∧
      FlagsAre c' False False False (shiftCarry op s.cpu.a.toNat) :=
  ⟨_, h, onlyAF_putR8 .., shiftCore_toNat .., flagsAre_putFlags _ Bool.false_eq_true.to_iff
    Bool.false_eq_true.to_iff Bool.false_eq_true.to_iff (shiftCore_carry ..)⟩

theorem decode_shiftReg (op : ShiftOp) (r : Reg8) (rest : List Byte) :
    decode (0xCB :: pat 0b00 (shiftField op) (regField r) :: rest) = .ok (.shiftReg op r) rest :=
  decode_cb (by cases op <;> cases r <;> rfl) rest

theorem decode_shiftAtHl (op : ShiftOp) (rest : List Byte) :
    decode (0xCB :: pat 0b00 (shiftField op) 0b110 :: rest) = .ok (.shiftAtHl op) rest :=
  decode_cb (by cases op <;> rfl) rest

theorem spendsCb_shiftReg (op : ShiftOp) (r : Reg8) :
    SpendsCb (pat 0b00 (shiftField op) (regField r)) [.f, .f8] :=
  spendsCb_of (by cases op <;> cases r <;> rfl)

theorem spendsCb_shiftAtHl (op : ShiftOp) : SpendsCb (pat 0b00 (shiftField op) 0b110) [.f, .f8, .r, .w] :=
  spendsCb_of (by cases op <;> rfl)

/-- One proof for the eight operations; O47 and O48 each name four of them. -/
theorem shiftForms (op : ShiftOp) : ShiftForms op := by
  refine ⟨busCyclesKeepRegisters, spendsCb_shiftReg op, spendsCb_shiftAtHl op,
    fun r s rest => ⟨decode_shiftReg op r rest, _, exec_shiftReg op r s, onlyRegF_putR8 .., ?_,
      shiftFlags_shift8 ..⟩,
    fun s rest => ⟨decode_shiftAtHl op rest, _, _, exec_shiftAtHl op s, onlyF_putFlags .., shiftCore_toNat ..,
      shiftFlags_shift8 ..⟩⟩
  rw [r8_putR8]
  exact shiftCore_toNat ..

/-! ## The statements -/

/-- Settles O46 (R381 to R384). -/
theorem accumulatorRotatesClearZ : Obligations.AccumulatorRotatesClearZ := by
  unfold Obligations.AccumulatorRotatesClearZ
  exact ⟨spends_of (by decide) rfl rfl, spends_of (by decide) rfl rfl, spends_of (by decide) rfl rfl,
    spends_of (by decide) rfl rfl, fun s rest =>
      ⟨⟨decode_one rfl rest, rotatesA_of_exec (exec_rlca s)⟩,
        ⟨decode_one rfl rest, rotatesA_of_exec (exec_rrca s)⟩,
        ⟨decode_one rfl rest, rotatesA_of_exec (exec_rla s)⟩,
        ⟨decode_one rfl rest, rotatesA_of_exec (exec_rra s)⟩⟩⟩

/-- Settles O47 (R385 to R392). -/
theorem cbRotates : Obligations.CbRotates := by
  unfold Obligations.CbRotates
  exact ⟨shiftForms .rlc, shiftForms .rrc, shiftForms .rl, shiftForms .rr⟩

/-- Settles O48 (R393 to R400). -/
theorem cbShiftsAndSwap : Obligations.CbShiftsAndSwap := by
  unfold Obligations.CbShiftsAndSwap
  exact ⟨shiftForms .sla, shiftForms .sra, shiftForms .swap, shiftForms .srl⟩

end Sys2Proof.Machine
end

section
/-! PROOFS. BIT, RES and SET (46_bit.md R420 to R425). First the flags of BIT and the bits of RES and SET, then BIT
on memory, then decode and the bus sequence of the forms, then the two statements. -/

namespace Sys2Proof.Machine

open Sys2Proof.Certificates

/-! ## The functions, bit by bit -/

theorem onlyF_testBit (c : Cpu) (b : Fin 8) (v : Byte) : OnlyF c (c.testBit b v) := rfl

theorem flagsAre_testBit (c : Cpu) (b : Fin 8) (v : Byte) :
    FlagsAre (c.testBit b v) (v.getLsbD b.val = false) False True (c.flagC = true) :=
  flagsAre_setFlags c (Bool.not_eq_true' _).to_iff Bool.false_eq_true.to_iff (iff_of_true rfl trivial) Iff.rfl

theorem getLsbD_bitMask (b : Fin 8) (k : Nat) : (bitMask b).getLsbD k = decide (b.val = k) := by
  have hmask : bitMask b = BitVec.twoPow 8 b.val := (BitVec.twoPow_eq ..).symm
  rw [hmask, BitVec.getLsbD_twoPow, decide_eq_true b.isLt, Bool.true_and]

/-- RES (R422). -/
theorem getLsbD_resetBit (b : Fin 8) (v : Byte) (k : Nat) (hk : k < 8) :
    (resetBit b v).getLsbD k = if k = b.val then false else v.getLsbD k := by
  rw [resetBit, BitVec.getLsbD_and, BitVec.getLsbD_not, getLsbD_bitMask]
  by_cases h : k = b.val <;> simp [h, hk, eq_comm]

/-- SET (R424). -/
theorem getLsbD_setBit (b : Fin 8) (v : Byte) (k : Nat) :
    (setBit b v).getLsbD k = if k = b.val then true else v.getLsbD k := by
  rw [setBit, BitVec.getLsbD_or, getLsbD_bitMask]
  by_cases h : k = b.val <;> simp [h, eq_comm]

/-! ## BIT on memory -/

/-- The read of HL keeps F, so the C that stays is the one before the instruction. -/
theorem testMemory_flags (b : Fin 8) (s : State) :
    ∃ c', testMemory b s = .next { s.afterRead s.cpu.hl with cpu := c' } ∧ OnlyF (s.afterRead s.cpu.hl).cpu c' ∧
      FlagsAre c' ((s.read s.cpu.hl).getLsbD b.val = false) False True (s.cpu.flagC = true) := by
  have hc : (s.afterRead s.cpu.hl).cpu.flagC = s.cpu.flagC := by simp [Cpu.flagC]
  rw [← hc]
  exact ⟨_, rfl, onlyF_testBit .., flagsAre_testBit ..⟩

/-! ## Decode and bus sequence of the forms -/

theorem decode_bitReg (b : Fin 8) (r : Reg8) (rest : List Byte) :
    decode (0xCB :: pat 0b01 (indexField b) (regField r) :: rest) = .ok (.bitReg b r) rest :=
  decode_cb (by fin_cases b <;> cases r <;> rfl) rest

theorem decode_bitAtHl (b : Fin 8) (rest : List Byte) :
    decode (0xCB :: pat 0b01 (indexField b) 0b110 :: rest) = .ok (.bitAtHl b) rest :=
  decode_cb (by fin_cases b <;> rfl) rest

theorem decode_resReg (b : Fin 8) (r : Reg8) (rest : List Byte) :
    decode (0xCB :: pat 0b10 (indexField b) (regField r) :: rest) = .ok (.resReg b r) rest :=
  decode_cb (by fin_cases b <;> cases r <;> rfl) rest

theorem decode_resAtHl (b : Fin 8) (rest : List Byte) :
    decode (0xCB :: pat 0b10 (indexField b) 0b110 :: rest) = .ok (.resAtHl b) rest :=
  decode_cb (by fin_cases b <;> rfl) rest

theorem decode_setReg (b : Fin 8) (r : Reg8) (rest : List Byte) :
    decode (0xCB :: pat 0b11 (indexField b) (regField r) :: rest) = .ok (.setReg b r) rest :=
  decode_cb (by fin_cases b <;> cases r <;> rfl) rest

theorem decode_setAtHl (b : Fin 8) (rest : List Byte) :
    decode (0xCB :: pat 0b11 (indexField b) 0b110 :: rest) = .ok (.setAtHl b) rest :=
  decode_cb (by fin_cases b <;> rfl) rest

theorem pat_low (x : BitVec 2) (y z : BitVec 3) : (pat x y z).extractLsb' 0 3 = z :=
  BitVec.extractLsb'_append_eq_right

theorem pat_high (x : BitVec 2) (y z : BitVec 3) : (pat x y z).extractLsb' 6 2 = x := by
  have hlow : pat x y z = x ++ (y ++ z) := BitVec.append_assoc
  rw [hlow]
  exact BitVec.extractLsb'_append_eq_left

/-- The register forms make no access of their own, whatever the operation and the bit (R588). -/
theorem spendsCb_register (x : BitVec 2) (y : BitVec 3) (r : Reg8) : SpendsCb (pat x y (regField r)) [.f, .f8] := by
  have hr : regField r ≠ 6 := by cases r <;> decide
  exact spendsCb_of (if_pos ((pat_low ..).trans_ne hr))

theorem spendsCb_bitAtHl (y : BitVec 3) : SpendsCb (pat 0b01 y 0b110) [.f, .f8, .r] := by
  apply spendsCb_of
  rw [cbSequence, pat_low, pat_high]
  rfl

/-- RES and SET, whose patterns begin with 10 and 11, read HL and write it (R588). -/
theorem spendsCb_changeAtHl {x : BitVec 2} (hx : x ≠ 1) (y : BitVec 3) :
    SpendsCb (pat x y 0b110) [.f, .f8, .r, .w] := by
  apply spendsCb_of
  rw [cbSequence, pat_low, pat_high, if_neg hx]
  rfl

/-! ## The statements -/

/-- Settles O49 (R420, R421). -/
theorem bitTestsWithoutWriting : Obligations.BitTestsWithoutWriting := by
  unfold Obligations.BitTestsWithoutWriting
  refine ⟨busCyclesKeepRegisters, fun b r => spendsCb_register _ _ r, fun b => spendsCb_bitAtHl _,
    fun b r s rest => ⟨decode_bitReg b r rest, _, exec_bitReg b r s, onlyF_testBit .., flagsAre_testBit ..⟩,
    fun b s rest => ⟨decode_bitAtHl b rest, ?_⟩⟩
  rw [exec_bitAtHl]
  exact testMemory_flags b s

/-- Settles O50 (R422 to R425). -/
theorem resSetChangeOneBit : Obligations.ResSetChangeOneBit := by
  unfold Obligations.ResSetChangeOneBit
  exact ⟨busCyclesKeepRegisters, fun b r => ⟨spendsCb_register _ _ r, spendsCb_register _ _ r⟩,
    fun b => ⟨spendsCb_changeAtHl (by decide) _, spendsCb_changeAtHl (by decide) _⟩,
    fun b r s rest =>
      ⟨⟨decode_resReg b r rest, _, _, exec_resReg b r s, setsReg_setR8 .., getLsbD_resetBit b _⟩,
        ⟨decode_setReg b r rest, _, _, exec_setReg b r s, setsReg_setR8 .., fun k _ => getLsbD_setBit b _ k⟩⟩,
    fun b s rest =>
      ⟨⟨decode_resAtHl b rest, _, exec_resAtHl b s, getLsbD_resetBit b _⟩,
        ⟨decode_setAtHl b rest, _, exec_setAtHl b s, fun k _ => getLsbD_setBit b _ k⟩⟩⟩

end Sys2Proof.Machine
end

section
/-! PROOFS. Jumps, calls, restarts and returns (47_control.md R441 to R449, R451). First what the shared meanings
answer, each conditional one as a single next state chosen by its condition, then decode and the bus sequence of the
forms that name a condition or a restart target, then the three statements. -/

namespace Sys2Proof.Machine

open Sys2Proof.Certificates

/-! ## What the shared meanings answer -/

/-- JR adds the sign-extended byte; read as a signed number, that is the step of R160. -/
theorem add_sext16_eq_offsetBy (w : Word) (e : Byte) : w + sext16 e = offsetBy w e := by
  rw [offsetBy, BitVec.ofInt_add, BitVec.ofInt_natCast, BitVec.ofNat_toNat, BitVec.setWidth_eq]
  rfl

theorem jumpRelative_eq (e : Byte) (s : State) :
    jumpRelative e s = .next (s.idle.setPc (offsetBy s.cpu.pc e)) := by
  rw [jumpRelative, add_sext16_eq_offsetBy]

theorem jumpIf_eq (cc : Cond) (addr : Word) (s : State) :
    jumpIf cc addr s = .next (if s.cpu.cond cc then s.idle.setPc addr else s) :=
  (apply_ite Host.Outcome.next _ _ _).symm

theorem jumpRelativeIf_eq (cc : Cond) (e : Byte) (s : State) :
    jumpRelativeIf cc e s = .next (if s.cpu.cond cc then s.idle.setPc (offsetBy s.cpu.pc e) else s) := by
  rw [jumpRelativeIf, jumpRelative_eq, apply_ite Host.Outcome.next]

theorem callTo_eq (addr : Word) (s : State) :
    callTo addr s = .next ((pushed s.idle s.cpu.pc).setPc addr) := by
  rw [callTo, push16_eq_pushed]

theorem callIf_eq (cc : Cond) (addr : Word) (s : State) :
    callIf cc addr s = .next (if s.cpu.cond cc then (pushed s.idle s.cpu.pc).setPc addr else s) := by
  rw [callIf, callTo_eq, apply_ite Host.Outcome.next]

theorem returnPlain_eq (s : State) : returnPlain s = .next ((popped s).idle.setPc (poppedValue s)) := by
  rw [returnPlain, pop16_eq_popped]

/-- The condition is read before the Idle of the test, and PC is popped after it. -/
theorem returnIf_eq (cc : Cond) (s : State) :
    returnIf cc s = .next (if s.cpu.cond cc then (popped s.idle).idle.setPc (poppedValue s.idle) else s.idle) := by
  rw [returnIf, returnPlain_eq, apply_ite Host.Outcome.next]

/-! ## Decode and bus sequence of the forms that name a condition or a restart target -/

theorem decode_jpCond (cc : Cond) (lo hi : Byte) (rest : List Byte) :
    decode (patC 0b110 (condField cc) 0b010 :: lo :: hi :: rest) = .ok (.jpCond cc (hi ++ lo)) rest :=
  decode_imm16 (by cases cc <;> rfl) lo hi rest

theorem decode_jrCond (cc : Cond) (e : Byte) (rest : List Byte) :
    decode (patC 0b001 (condField cc) 0b000 :: e :: rest) = .ok (.jrCond cc e) rest :=
  decode_imm8 (by cases cc <;> rfl) e rest

theorem decode_callCond (cc : Cond) (lo hi : Byte) (rest : List Byte) :
    decode (patC 0b110 (condField cc) 0b100 :: lo :: hi :: rest) = .ok (.callCond cc (hi ++ lo)) rest :=
  decode_imm16 (by cases cc <;> rfl) lo hi rest

theorem decode_retCond (cc : Cond) (rest : List Byte) :
    decode (patC 0b110 (condField cc) 0b000 :: rest) = .ok (.retCond cc) rest :=
  decode_one (by cases cc <;> rfl) rest

theorem decode_rst (t : Fin 8) (rest : List Byte) :
    decode (pat 0b11 (indexField t) 0b111 :: rest) = .ok (.rst t) rest :=
  decode_one (by fin_cases t <;> rfl) rest

theorem spendsIf_jpCond (cc : Cond) :
    SpendsIf (patC 0b110 (condField cc) 0b010) cc [.f, .f8, .f8, .i] [.f, .f8, .f8] := by
  cases cc <;> exact spendsIf_of (by decide) rfl rfl rfl

theorem spendsIf_jrCond (cc : Cond) :
    SpendsIf (patC 0b001 (condField cc) 0b000) cc [.f, .f8, .i] [.f, .f8] := by
  cases cc <;> exact spendsIf_of (by decide) rfl rfl rfl

theorem spendsIf_callCond (cc : Cond) :
    SpendsIf (patC 0b110 (condField cc) 0b100) cc [.f, .f8, .f8, .i, .w, .w] [.f, .f8, .f8] := by
  cases cc <;> exact spendsIf_of (by decide) rfl rfl rfl

theorem spendsIf_retCond (cc : Cond) :
    SpendsIf (patC 0b110 (condField cc) 0b000) cc [.f, .i, .r, .r, .i] [.f, .i] := by
  cases cc <;> exact spendsIf_of (by decide) rfl rfl rfl

theorem spends_rst (t : Fin 8) : Spends (pat 0b11 (indexField t) 0b111) [.f, .i, .w, .w] := by
  fin_cases t <;> exact spends_of (by decide) rfl rfl

/-! ## The statements -/

/-- Settles O51 (R441 to R445, R155). -/
theorem jumpsSetPcWhenConditionHolds : Obligations.JumpsSetPcWhenConditionHolds := by
  unfold Obligations.JumpsSetPcWhenConditionHolds
  exact ⟨busCyclesKeepRegisters, spends_of (by decide) rfl rfl, spends_of (by decide) rfl rfl,
    spends_of (by decide) rfl rfl, fun cc => ⟨spendsIf_jpCond cc, spendsIf_jrCond cc⟩,
    fun _ => ⟨(Bool.not_eq_true' _).to_iff, Iff.rfl, (Bool.not_eq_true' _).to_iff, Iff.rfl⟩,
    fun lo hi e s rest =>
      ⟨⟨decode_imm16 rfl lo hi rest, exec_jp (hi ++ lo) s⟩, ⟨decode_one rfl rest, exec_jpHl s⟩,
        ⟨decode_imm8 rfl e rest, (exec_jr e s).trans (jumpRelative_eq e s)⟩,
        fun cc => ⟨decode_jpCond cc lo hi rest, (exec_jpCond cc (hi ++ lo) s).trans (jumpIf_eq cc (hi ++ lo) s)⟩,
        fun cc => ⟨decode_jrCond cc e rest, (exec_jrCond cc e s).trans (jumpRelativeIf_eq cc e s)⟩⟩⟩

/-- Settles O52 (R446, R447, R451). The operand bytes are fetched before `exec`, so PC is already the return address. -/
theorem callsPushReturnAddress : Obligations.CallsPushReturnAddress := by
  unfold Obligations.CallsPushReturnAddress
  exact ⟨busCyclesKeepRegisters, spends_of (by decide) rfl rfl, spendsIf_callCond, spends_rst,
    fun lo hi s rest =>
      ⟨⟨decode_imm16 rfl lo hi rest, (exec_call (hi ++ lo) s).trans (callTo_eq (hi ++ lo) s)⟩,
        fun cc =>
          ⟨decode_callCond cc lo hi rest, (exec_callCond cc (hi ++ lo) s).trans (callIf_eq cc (hi ++ lo) s)⟩,
        fun t => ⟨decode_rst t rest, (exec_rst t s).trans (callTo_eq (restartTarget t) s)⟩⟩⟩

/-- Settles O53 (R448, R449). -/
theorem returnsPopPc : Obligations.ReturnsPopPc := by
  unfold Obligations.ReturnsPopPc
  exact ⟨busCyclesKeepRegisters, spends_of (by decide) rfl rfl, spendsIf_retCond, fun s rest =>
    ⟨⟨decode_one rfl rest, (exec_ret s).trans (returnPlain_eq s)⟩,
      fun cc => ⟨decode_retCond cc rest, (exec_retCond cc s).trans (returnIf_eq cc s)⟩⟩⟩

end Sys2Proof.Machine
end

section
/-! PROOFS. NOP, CPL, SCF and CCF (48_misc_system.md R480, R482 to R484). First what the shared meanings of the three
that write F answer, then the statement. -/

namespace Sys2Proof.Machine

open Sys2Proof.Certificates

/-! ## What the shared meanings answer -/

theorem onlyF_setFlags (c : Cpu) (z n h cy : Bool) : OnlyF c (c.setFlags z n h cy) := rfl

/-- CPL (R482). Z keeps its old value: it is not taken from the new A. -/
theorem execCpl_effect (s : State) :
    ∃ c', execCpl s = .next { s with cpu := c' } ∧ OnlyAF s.cpu c' ∧ c'.a = ~~~ s.cpu.a ∧
      FlagsAre c' (s.cpu.flagZ = true) True True (s.cpu.flagC = true) :=
  ⟨_, rfl, rfl, BitVec.xor_allOnes, flagsAre_setFlags _ Iff.rfl (iff_true_intro rfl) (iff_true_intro rfl) Iff.rfl⟩

/-- SCF (R483). -/
theorem execScf_effect (s : State) :
    ∃ c', execScf s = .next { s with cpu := c' } ∧ OnlyF s.cpu c' ∧
      FlagsAre c' (s.cpu.flagZ = true) False False True :=
  ⟨_, rfl, onlyF_setFlags .., flagsAre_setFlags _ Iff.rfl Bool.false_eq_true.to_iff Bool.false_eq_true.to_iff
    (iff_true_intro rfl)⟩

/-- CCF (R484). The new C is set exactly when the old one was clear. -/
theorem execCcf_effect (s : State) :
    ∃ c', execCcf s = .next { s with cpu := c' } ∧ OnlyF s.cpu c' ∧
      FlagsAre c' (s.cpu.flagZ = true) False False (s.cpu.flagC = false) :=
  ⟨_, rfl, onlyF_setFlags .., flagsAre_setFlags _ Iff.rfl Bool.false_eq_true.to_iff Bool.false_eq_true.to_iff
    (Bool.not_eq_true' _).to_iff⟩

/-! ## The statement -/

theorem spends_nopCplScfCcf (op : Byte) (hop : op ∈ ([0x00, 0x2F, 0x37, 0x3F] : List Byte)) : Spends op [.f] := by
  fin_cases hop <;> exact spends_of (by decide) rfl rfl

/-- Settles O55 (R480, R482 to R484, R42). -/
theorem nopComplementAndCarry : Obligations.NopComplementAndCarry := by
  unfold Obligations.NopComplementAndCarry
  refine ⟨spends_nopCplScfCcf, fun _ => ⟨rfl, rfl, rfl, rfl⟩, fun s rest =>
    ⟨⟨decode_one rfl rest, exec_nop s⟩, ⟨decode_one rfl rest, ?_⟩, ⟨decode_one rfl rest, ?_⟩,
      ⟨decode_one rfl rest, ?_⟩⟩⟩
  · rw [exec_cpl]
    exact execCpl_effect s
  · rw [exec_scf]
    exact execScf_effect s
  · rw [exec_ccf]
    exact execCcf_effect s

end Sys2Proof.Machine
end

section
/-! PROOFS. The decoder and the encoder (30_encoding.md sections 1 to 4 and 6). First what the encoder writes for the
instructions of each entry of the opcode maps, then the statements about `decode` and `encode`. -/

namespace Sys2Proof.Machine

open Sys2Proof.Certificates

/-! ## What the encoder writes for an entry of the maps -/

/-- The entry `e` stands at the opcode `op`: the encoder writes `op` and then the immediate bytes, low byte first
(R150, R158, R159). The byte it writes after STOP's opcode is not read back (R165). -/
def EncodedAt (op : Byte) : Entry → Prop
  | .one i => encode i = [op]
  | .imm8 f => ∀ v, encode (f v) = [op, v]
  | .imm16 f => ∀ w, encode (f w) = [op, loByte w, hiByte w]
  | .skip i => i = .stop ∧ op = 0x10
  | .cb => op = 0xCB

theorem primaryEntry_encodedAt (op : Byte) : EncodedAt op (primaryEntry op) := by
  apply primaryEntry_families (P := EncodedAt)
  case ldImm | aluImm => intro x v; cases x <;> rfl
  case jrCond => intro cc v; cases cc <;> rfl
  case jr | ldAtHlImm | ldhAtOffA | addSpImm | ldhAAtOff | ldHlSpImm => exact fun _ => rfl
  case ldPairImm | jpCond | callCond => intro x w; cases x <;> rfl
  case ldAtAddrSp | jp | call | ldAtAddrA | ldAAtAddr => exact fun _ => rfl
  case stop => exact ⟨rfl, rfl⟩
  case prefixCb => rfl
  case ldReg | aluReg => intro x y; cases x <;> cases y <;> rfl
  case rst | unassigned => intro k; fin_cases k <;> rfl
  case incPair | incReg | decReg | addHlPair | decPair | ldRegAtHl | ldAtHlReg | aluAtHl | retCond | pop | push =>
    intro x; cases x <;> rfl
  all_goals rfl

theorem encode_cbEntry (op2 : Byte) : encode (cbEntry op2) = [0xCB, op2] := by
  apply cbEntry_families (P := fun op2 i => encode i = [0xCB, op2])
  case shiftReg => intro op r; cases op <;> cases r <;> rfl
  case shiftAtHl => intro op; cases op <;> rfl
  case bitReg | resReg | setReg => intro k r; fin_cases k <;> cases r <;> rfl
  case bitAtHl | resAtHl | setAtHl => intro k; fin_cases k <;> rfl

theorem encode_unassigned (k : Fin 11) : encode (.unassigned k) = [unassignedOpcodes.getD k.val 0] := by
  fin_cases k <;> rfl

theorem decode_unassigned (k : Fin 11) (rest : List Byte) :
    decode (unassignedOpcodes.getD k.val 0 :: rest) = .ok (.unassigned k) rest :=
  decode_one (by fin_cases k <;> rfl) rest

/-! ## What the decoder reads -/

/-- The two bytes of a 16-bit immediate are put together again (R159). -/
theorem decode_imm16_halves {op : Byte} {f : Word → Instr} (h : primaryEntry op = .imm16 f) (w : Word)
    (rest : List Byte) : decode (op :: loByte w :: hiByte w :: rest) = .ok (f w) rest :=
  (decode_imm16 h _ _ rest).trans (congrArg (fun v => Decoded.ok (f v) rest) (wordOf_halves w))

/-- Everything `decode` can read, by the entry of the opcode byte (R150, R165, R167). -/
theorem decode_cases {op : Byte} {bytes rest : List Byte} {i : Instr} (h : decode (op :: bytes) = .ok i rest) :
    (primaryEntry op = .one i ∧ bytes = rest) ∨
    (∃ f v, primaryEntry op = .imm8 f ∧ i = f v ∧ bytes = v :: rest) ∨
    (∃ f lo hi, primaryEntry op = .imm16 f ∧ i = f (wordOf hi lo) ∧ bytes = lo :: hi :: rest) ∨
    (∃ skipped, primaryEntry op = .skip i ∧ bytes = skipped :: rest) ∨
    (∃ op2, primaryEntry op = .cb ∧ i = cbEntry op2 ∧ bytes = op2 :: rest) ∨
    (primaryEntry op = .cb ∧ i = .prefixCb ∧ bytes = [] ∧ rest = []) := by
  rcases he : primaryEntry op with j | f | f | j | _ <;> rcases bytes with _ | ⟨b1, _ | ⟨b2, more⟩⟩ <;>
    simp only [decode, he, Decoded.ok.injEq, reduceCtorEq] at h <;> obtain ⟨rfl, rfl⟩ := h <;> simp

/-- Three bytes are enough for every entry (R150, R169). -/
theorem decode_three_bytes (op b1 b2 : Byte) (rest : List Byte) :
    ∃ i after, decode (op :: b1 :: b2 :: rest) = .ok i after := by
  rcases he : primaryEntry op with j | f | f | j | _ <;> simp only [decode, he] <;> exact ⟨_, _, rfl⟩

/-- The first byte that the encoder writes for what `decode` read is the first byte that was read. -/
theorem encode_head_of_decode {op : Byte} {bytes rest : List Byte} {i : Instr}
    (h : decode (op :: bytes) = .ok i rest) : (encode i).head? = some op := by
  have hop := primaryEntry_encodedAt op
  obtain ⟨he, -⟩ | ⟨f, v, he, rfl, -⟩ | ⟨f, lo, hi, he, rfl, -⟩ | ⟨skipped, he, -⟩ | ⟨op2, he, rfl, -⟩ |
    ⟨he, rfl, -, -⟩ := decode_cases h <;> rw [he] at hop
  · exact congrArg List.head? hop
  · exact congrArg List.head? (hop v)
  · exact congrArg List.head? (hop _)
  · obtain ⟨rfl, rfl⟩ := hop
    rfl
  · rw [encode_cbEntry, hop]
    rfl
  · exact congrArg some hop.symm

/-! ## The statements -/

/-- Settles O1, family by family. -/
theorem decodeInvertsEncode : Obligations.DecodeInvertsEncode := by
  unfold Obligations.DecodeInvertsEncode
  intro i rest
  apply exec_families (P := fun i => WellFormed i = true → decode (encode i ++ rest) = .ok i rest)
  case prefixCb => exact fun h => absurd h (by decide)
  case ldPairImm | jpCond | callCond => intro x w _; cases x <;> exact decode_imm16_halves rfl w rest
  case ldAtAddrSp | jp | call | ldAtAddrA | ldAAtAddr => exact fun w _ => decode_imm16_halves rfl w rest
  case ldImm | aluImm | jrCond => intro x v _; cases x <;> rfl
  case jr | ldAtHlImm | ldhAtOffA | addSpImm | ldhAAtOff | ldHlSpImm => exact fun _ _ => rfl
  case ldReg | aluReg | shiftReg => intro x r _; cases x <;> cases r <;> rfl
  case bitReg | resReg | setReg => intro k r _; fin_cases k <;> cases r <;> rfl
  case bitAtHl | resAtHl | setAtHl | rst | unassigned => intro k _; fin_cases k <;> rfl
  case ldRegAtHl | ldAtHlReg | push | pop | aluAtHl | incReg | decReg | addHlPair | incPair | decPair | shiftAtHl |
      retCond =>
    intro x _; cases x <;> rfl
  all_goals exact fun _ => rfl

/-- Settles O2. -/
theorem encodeInvertsDecode : Obligations.EncodeInvertsDecode := by
  unfold Obligations.EncodeInvertsDecode
  intro bytes i rest h
  rcases bytes with _ | ⟨op, bytes⟩
  · cases h
  have hop := primaryEntry_encodedAt op
  obtain ⟨he, rfl⟩ | ⟨f, v, he, rfl, rfl⟩ | ⟨f, lo, hi, he, rfl, rfl⟩ | ⟨skipped, he, rfl⟩ |
    ⟨op2, he, rfl, rfl⟩ | ⟨he, rfl, rfl, rfl⟩ := decode_cases h <;> rw [he] at hop
  · exact .inl (congrArg (· ++ bytes) hop)
  · exact .inl (congrArg (· ++ rest) (hop v))
  · left
    rw [hop, loByte_wordOf, hiByte_wordOf]
    rfl
  · obtain ⟨rfl, rfl⟩ := hop
    exact .inr ⟨rfl, skipped, rfl⟩
  · left
    rw [encode_cbEntry, hop]
    rfl
  · exact .inl (congrArg ([·]) hop.symm)

/-- Settles O3. What is read at an unassigned opcode and after the byte 0xCB is known; for the other direction, the
encoder's first byte is the opcode. -/
theorem threeBytesAlwaysDecode : Obligations.ThreeBytesAlwaysDecode := by
  unfold Obligations.ThreeBytesAlwaysDecode
  intro op b1 b2 rest
  obtain ⟨i, after, h⟩ := decode_three_bytes op b1 b2 rest
  have hhead := encode_head_of_decode h
  have hcb : op = 0xCB → encode i = [0xCB, b1] := by
    rintro rfl
    obtain ⟨rfl, -⟩ := Decoded.ok.inj h
    exact encode_cbEntry b1
  refine ⟨i, after, h, bne_iff_ne.mpr ?_, ⟨?_, ?_⟩, hcb, ?_⟩
  · rintro rfl
    have htwo : [0xCB] = [0xCB, b1] := hcb (Option.some.inj hhead).symm
    exact absurd htwo (by simp)
  · rintro ⟨k, rfl⟩
    rw [encode_unassigned] at hhead
    rw [← Option.some.inj hhead]
    fin_cases k <;> decide
  · intro hmem
    obtain ⟨n, hn, rfl⟩ := List.getElem_of_mem hmem
    have hdec := decode_unassigned ⟨n, hn⟩ (b1 :: b2 :: rest)
    rw [List.getD_eq_getElem _ _ hn, h] at hdec
    exact ⟨_, (Decoded.ok.inj hdec).1⟩
  · intro he
    rw [he] at hhead
    exact (Option.some.inj hhead).symm

/-- Settles O4. -/
theorem specWordsDecode : Obligations.SpecWordsDecode := by
  unfold Obligations.SpecWordsDecode
  exact ⟨rfl, rfl, rfl, rfl, rfl, rfl, rfl, rfl⟩

end Sys2Proof.Machine
end

section
/-! SUPPORT. Meanings as programs of micro-operations (R11 to R13): a meaning looks at the registers, updates them and
spends M-cycles, and does nothing else. `Runs` ties such a program to `exec`, so what holds of every program holds of
every instruction. -/

namespace Sys2Proof.Machine

open Sys2Proof.Certificates

/-! ## Programs of micro-operations -/

/-- A program of micro-operations. -/
inductive Micro where
  | done
  | look (k : Model → Cpu → Micro)
  | regs (g : Cpu → Cpu) (k : Micro)
  | idle (k : Micro)
  | read (a : Word) (k : Byte → Micro)
  | write (a : Word) (v : Byte) (k : Micro)

namespace Micro

/-- The machine after a program. -/
def run : Micro → State → State
  | done, s => s
  | look k, s => (k s.model s.cpu).run s
  | regs g k, s => k.run (s.onCpu g)
  | idle k, s => k.run s.idle
  | read a k, s => (k (s.read a)).run (s.afterRead a)
  | write a v k, s => k.run (s.write a v)

/-- The M-cycles that a program spends. -/
def cycles : Micro → State → Nat
  | done, _ => 0
  | look k, s => (k s.model s.cpu).cycles s
  | regs g k, s => k.cycles (s.onCpu g)
  | idle k, s => k.cycles s.idle + 1
  | read a k, s => (k (s.read a)).cycles (s.afterRead a) + 1
  | write a v k, s => k.cycles (s.write a v) + 1

/-- The addresses that a program writes, in order. -/
def stores : Micro → State → List Word
  | done, _ => []
  | look k, s => (k s.model s.cpu).stores s
  | regs g k, s => k.stores (s.onCpu g)
  | idle k, s => k.stores s.idle
  | read a k, s => (k (s.read a)).stores (s.afterRead a)
  | write a v k, s => a :: k.stores (s.write a v)

/-- Every register update of the program takes a core to one that `R` relates it to. -/
def All (R : Cpu → Cpu → Prop) : Micro → Prop
  | done => True
  | look k => ∀ m c, (k m c).All R
  | regs g k => (∀ c, R c (g c)) ∧ k.All R
  | idle k => k.All R
  | read _ k => ∀ v, (k v).All R
  | write _ _ k => k.All R

theorem All.mono {R Q : Cpu → Cpu → Prop} (h : ∀ {c c'}, R c c' → Q c c') {m : Micro} (hm : m.All R) : m.All Q := by
  induction m with
  | done => trivial
  | look k ih => exact fun md c => ih md c (hm md c)
  | regs g k ih => exact ⟨fun c => h (hm.1 c), ih hm.2⟩
  | idle k ih => exact ih hm
  | read a k ih => exact fun v => ih v (hm v)
  | write a v k ih => exact ih hm

/-- What every micro-operation keeps, a program keeps. -/
theorem run_keeps {P : State → Prop} {R : Cpu → Cpu → Prop}
    (regs : ∀ s g, (∀ c, R c (g c)) → P s → P (s.onCpu g)) (idle : ∀ s, P s → P s.idle)
    (read : ∀ s a, P s → P (s.afterRead a)) (write : ∀ s a v, P s → P (s.write a v))
    {m : Micro} (hm : m.All R) {s : State} (hs : P s) : P (m.run s) := by
  induction m generalizing s with
  | done => exact hs
  | look k ih => exact ih _ _ (hm _ _) hs
  | regs g k ih => exact ih hm.2 (regs s g hm.1 hs)
  | idle k ih => exact ih hm (idle s hs)
  | read a k ih => exact ih _ (hm _) (read s a hs)
  | write a v k ih => exact ih hm (write s a v hs)

/-- One program after another. -/
def andThen : Micro → Micro → Micro
  | done, n => n
  | look k, n => look fun md c => (k md c).andThen n
  | regs g k, n => regs g (k.andThen n)
  | idle k, n => idle (k.andThen n)
  | read a k, n => read a fun v => (k v).andThen n
  | write a v k, n => write a v (k.andThen n)

theorem run_andThen (m n : Micro) (s : State) : (m.andThen n).run s = n.run (m.run s) := by
  induction m generalizing s with
  | done => rfl
  | look k ih => exact ih _ _ s
  | regs g k ih => exact ih _
  | idle k ih => exact ih _
  | read a k ih => exact ih _ _
  | write a v k ih => exact ih _

theorem all_andThen {R : Cpu → Cpu → Prop} {m n : Micro} (hm : m.All R) (hn : n.All R) : (m.andThen n).All R := by
  induction m with
  | done => exact hn
  | look k ih => exact fun md c => ih md c (hm md c)
  | regs g k ih => exact ⟨hm.1, ih hm.2⟩
  | idle k ih => exact ih hm
  | read a k ih => exact fun v => ih v (hm v)
  | write a v k ih => exact ih hm

/-- `Fetch8` (R12). -/
def fetch8 (k : Byte → Micro) : Micro :=
  look fun _ c => read c.pc fun v => regs (fun d => { d with pc := c.pc + 1 }) (k v)

/-- Half of a push (R12). -/
def push8 (v : Byte) (k : Micro) : Micro :=
  look fun _ c => regs (fun d => { d with sp := c.sp - 1 }) (write (c.sp - 1) v k)

/-- `Push16` (R12). -/
def push16 (v : Word) (k : Micro) : Micro := push8 (hiByte v) (push8 (loByte v) k)

/-- Half of a pop (R12). -/
def pop8 (k : Byte → Micro) : Micro :=
  look fun _ c => read c.sp fun v => regs (fun d => { d with sp := c.sp + 1 }) (k v)

/-- `Pop16` (R12). -/
def pop16 (k : Word → Micro) : Micro := pop8 fun lo => pop8 fun hi => k (wordOf hi lo)

theorem run_fetch8 (k : Byte → Micro) (s : State) : (fetch8 k).run s = (k s.fetch8.1).run s.fetch8.2 := rfl

theorem run_push16 (v : Word) (k : Micro) (s : State) : (push16 v k).run s = k.run (s.push16 v) := rfl

theorem run_pop16 (k : Word → Micro) (s : State) : (pop16 k).run s = (k s.pop16.1).run s.pop16.2 := rfl

theorem stores_push16 (v : Word) (k : Micro) (s : State) :
    (push16 v k).stores s = pushAddrs s ++ k.stores (s.push16 v) := by
  have hsp : (s.push8 (hiByte v)).cpu.sp - 1 = s.cpu.sp - 2 := by simp [BitVec.sub_sub]
  exact congrArg (fun a => (s.cpu.sp - 1) :: a :: k.stores (s.push16 v)) hsp

/-- A jump after an idle M-cycle (R441, R444). -/
def jumpTo (target : Word) : Micro := idle (regs (fun d => { d with pc := target }) done)

/-- A call (R446, R451): Idle, the push of PC, the jump. -/
def callTo (target : Word) : Micro :=
  look fun _ c => idle (push16 c.pc (regs (fun d => { d with pc := target }) done))

/-- A return (R448): the pop, Idle, the jump. -/
def return_ : Micro := pop16 jumpTo

end Micro
end Sys2Proof.Machine
end

section
/-! SUPPORT. Every instruction as a program of micro-operations: what its register updates may write, and that it
stores only where the statements' table says. -/

namespace Sys2Proof.Machine

open Sys2Proof.Certificates

/-! ## What a register update may write -/

/-- F[3:0] stays 0 (R43). -/
def KeepsFlagsLow (c c' : Cpu) : Prop := c.f &&& 0x0F = 0 → c'.f &&& 0x0F = 0

/-- Only the registers of R40 to R47 change: no control state, no clock and none of the core's three bytes. -/
def Plain (c c' : Cpu) : Prop :=
  c' = { c with
    a := c'.a, f := c'.f, b := c'.b, c := c'.c, d := c'.d, e := c'.e, h := c'.h, l := c'.l, sp := c'.sp,
    pc := c'.pc } ∧ KeepsFlagsLow c c'

/-- The control state that instruction `i` keeps (R48 to R53, R57). -/
structure ControlKept (i : Instr) (c c' : Cpu) : Prop where
  ime : i ≠ .di → i ≠ .reti → c'.ime = c.ime
  imeLatch : i ≠ .ei → i ≠ .di → c'.imeLatch = c.imeLatch
  halt : i ≠ .halt → c'.halted = c.halted ∧ c'.haltBug = c.haltBug
  stop : i ≠ .stop → c'.stopped = c.stopped ∧ c'.key1Speed = c.key1Speed
  locked : (∀ k, i ≠ .unassigned k) → c'.locked = c.locked

/-- What instruction `i` may write of the core outside its M-cycles. -/
structure MayWrite (i : Instr) (c c' : Cpu) : Prop where
  cycles : c'.cycles = c.cycles
  ie : c'.ie = c.ie
  iflag : c'.iflag = c.iflag
  key1Prepare : i ≠ .stop → c'.key1Prepare = c.key1Prepare
  flagsLow : KeepsFlagsLow c c'
  control : ControlKept i c c'

theorem Plain.mayWrite {c c' : Cpu} (h : Plain c c') (i : Instr) : MayWrite i c c' := by
  obtain ⟨hreg, hlow⟩ := h
  exact ⟨by rw [hreg], by rw [hreg], by rw [hreg], fun _ => by rw [hreg], hlow, fun _ _ => by rw [hreg],
    fun _ _ => by rw [hreg], fun _ => by rw [hreg]; exact ⟨rfl, rfl⟩, fun _ => by rw [hreg]; exact ⟨rfl, rfl⟩,
    fun _ => by rw [hreg]⟩

theorem plain_of_flags_kept {c c' : Cpu} (h : c' = { c with
    a := c'.a, b := c'.b, c := c'.c, d := c'.d, e := c'.e, h := c'.h, l := c'.l, sp := c'.sp, pc := c'.pc }) :
    Plain c c' := by
  rw [h]
  exact ⟨rfl, id⟩

theorem plain_refl (c : Cpu) : Plain c c := plain_of_flags_kept rfl

theorem plain_setR8 (c : Cpu) (r : Reg8) (v : Byte) : Plain c (c.setR8 r v) := by
  cases r <;> exact plain_of_flags_kept rfl

theorem plain_setFlags (c : Cpu) (z n h cy : Bool) : Plain c (c.setFlags z n h cy) :=
  ⟨rfl, fun _ => packFlags_low z n h cy⟩

theorem plain_putR8 (c : Cpu) (r : Reg8) (o : Out8) : Plain c (c.putR8 r o) := by
  cases r <;> exact ⟨rfl, fun _ => packFlags_low ..⟩

theorem plain_setPair (c : Cpu) (p : Pair) (v : Word) : Plain c (c.setPair p v) := by
  cases p <;> exact plain_of_flags_kept rfl

theorem plain_setStackPair (c : Cpu) (p : StackPair) (v : Word) : Plain c (c.setStackPair p v) := by
  cases p with
  | bc | de | hl => exact plain_of_flags_kept rfl
  | af => exact ⟨rfl, fun _ => masked_low (loByte v)⟩

theorem plain_setPc (c : Cpu) (v : Word) : Plain c { c with pc := v } := plain_of_flags_kept rfl

theorem plain_setSp (c : Cpu) (v : Word) : Plain c { c with sp := v } := plain_of_flags_kept rfl

theorem Micro.all_push16 {v : Word} {k : Micro} (hk : k.All Plain) : (push16 v k).All Plain :=
  fun _ _ => ⟨fun d => plain_setSp d _, fun _ _ => ⟨fun d => plain_setSp d _, hk⟩⟩

theorem Micro.all_pop16 {k : Word → Micro} (hk : ∀ v, (k v).All Plain) : (pop16 k).All Plain :=
  fun _ _ _ => ⟨fun d => plain_setSp d _, fun _ _ _ => ⟨fun d => plain_setSp d _, hk _⟩⟩

theorem Micro.all_jumpTo (target : Word) : (jumpTo target).All Plain :=
  ⟨fun d => plain_setPc d target, trivial⟩

theorem Micro.all_callTo (target : Word) : (callTo target).All Plain :=
  fun _ _ => all_push16 ⟨fun d => plain_setPc d target, trivial⟩

theorem Micro.all_return : return_.All Plain := all_pop16 all_jumpTo

/-- The Idle before a push keeps SP. -/
theorem Micro.stores_idle_push16 (v : Word) (s : State) (k : Micro) :
    (idle (push16 v k)).stores s = pushAddrs s ++ k.stores (s.idle.push16 v) := by
  rw [stores, stores_push16]
  simp [pushAddrs]

theorem Micro.stores_callTo (target : Word) (s : State) : (callTo target).stores s = pushAddrs s :=
  stores_idle_push16 s.cpu.pc s _

/-! ## Programs of instructions -/

theorem subset_of_eq {l l' : List Word} (h : l = l') : l ⊆ l' := h ▸ List.Subset.refl l

/-- The program `m` is what `exec` does for `i`, its register updates are as `R` says, and it stores only where the
statements' table says. -/
structure Runs (R : Cpu → Cpu → Prop) (i : Instr) (m : Micro) : Prop where
  exec_eq : ∀ s, exec i s = .next (m.run s)
  writes : m.All R
  stores : ∀ s, m.stores s ⊆ storeAddrs i s

/-- Some program of micro-operations is what `exec` does for `i`. -/
def IsMicro (R : Cpu → Cpu → Prop) (i : Instr) : Prop := ∃ m, Runs R i m

theorem IsMicro.mayWrite {i : Instr} (h : IsMicro Plain i) : IsMicro (MayWrite i) i := by
  obtain ⟨m, he, hm, hs⟩ := h
  exact ⟨m, he, hm.mono fun hp => hp.mayWrite i, hs⟩

section Shapes

variable {i : Instr}

/-- No M-cycle. -/
theorem isMicro_regs {R : Cpu → Cpu → Prop} (g : Cpu → Cpu) (he : ∀ s, exec i s = .next (s.onCpu g))
    (hg : ∀ c, R c (g c)) : IsMicro R i :=
  ⟨.regs g .done, he, ⟨hg, trivial⟩, fun _ => List.nil_subset _⟩

/-- One Idle, with register updates before and after it. -/
theorem isMicro_idle (g : Cpu → Cpu) (g' : Cpu → Cpu → Cpu)
    (he : ∀ s, exec i s = .next ((s.onCpu g).idle.onCpu (g' s.cpu))) (hg : ∀ c, Plain c (g c))
    (hg' : ∀ c d, Plain d (g' c d)) : IsMicro Plain i :=
  ⟨.look fun _ c => .regs g (.idle (.regs (g' c) .done)), he, fun _ c => ⟨hg, hg' c, trivial⟩,
    fun _ => List.nil_subset _⟩

/-- One read. -/
theorem isMicro_read (a : Cpu → Word) (g : Byte → Cpu → Cpu)
    (he : ∀ s, exec i s = .next ((s.afterRead (a s.cpu)).onCpu (g (s.read (a s.cpu)))))
    (hg : ∀ v c, Plain c (g v c)) : IsMicro Plain i :=
  ⟨.look fun _ c => .read (a c) fun v => .regs (g v) .done, he, fun _ _ v => ⟨hg v, trivial⟩,
    fun _ => List.nil_subset _⟩

/-- One write. -/
theorem isMicro_write (a : Cpu → Word) (v : Cpu → Byte) (g : Cpu → Cpu)
    (he : ∀ s, exec i s = .next ((s.write (a s.cpu) (v s.cpu)).onCpu g)) (hg : ∀ c, Plain c (g c))
    (hs : ∀ s, storeAddrs i s = [a s.cpu]) : IsMicro Plain i :=
  ⟨.look fun _ c => .write (a c) (v c) (.regs g .done), he, fun _ _ => ⟨hg, trivial⟩,
    fun s => subset_of_eq (hs s).symm⟩

/-- A read and a write at HL. -/
theorem isMicro_update (v : Cpu → Byte → Byte) (g : Cpu → Byte → Cpu → Cpu)
    (he : ∀ s, exec i s = .next (((s.afterRead s.cpu.hl).onCpu (g s.cpu (s.read s.cpu.hl))).write s.cpu.hl
      (v s.cpu (s.read s.cpu.hl)))) (hg : ∀ c w d, Plain d (g c w d))
    (hs : ∀ s, storeAddrs i s = [s.cpu.hl]) : IsMicro Plain i :=
  ⟨.look fun _ c => .read c.hl fun w => .regs (g c w) (.write c.hl (v c w) .done), he,
    fun _ c w => ⟨hg c w, trivial⟩, fun s => subset_of_eq (hs s).symm⟩

/-- One program where the condition holds, another where it does not. -/
theorem isMicro_cond (cc : Cond) (m n : Micro)
    (he : ∀ s, exec i s = if s.cpu.cond cc then .next (m.run s) else .next (n.run s)) (hm : m.All Plain)
    (hn : n.All Plain) (hs : ∀ s, s.cpu.cond cc = true → m.stores s ⊆ storeAddrs i s) (hs' : ∀ s, n.stores s = []) :
    IsMicro Plain i := by
  refine ⟨.look fun _ c => if c.cond cc then m else n, fun s => ?_, fun _ c => ?_, fun s => ?_⟩
  · rw [he, Micro.run]
    split <;> rfl
  · beta_reduce
    split
    · exact hm
    · exact hn
  · rw [Micro.stores]
    split
    · exact hs s ‹_›
    · exact hs' s ▸ List.nil_subset _

end Shapes

/-! ## The CB map -/

theorem isMicro_shiftReg (op : ShiftOp) (r : Reg8) : IsMicro Plain (.shiftReg op r) :=
  isMicro_regs _ (exec_shiftReg op r) fun _ => plain_putR8 ..

theorem isMicro_shiftAtHl (op : ShiftOp) : IsMicro Plain (.shiftAtHl op) :=
  isMicro_update (fun c w => (shift8 op w c.flagC).value) (fun c w d => d.putFlags (shift8 op w c.flagC))
    (exec_shiftAtHl op) (fun _ _ _ => plain_setFlags ..) fun s => by cases op <;> rfl

theorem isMicro_bitReg (b : Fin 8) (r : Reg8) : IsMicro Plain (.bitReg b r) :=
  isMicro_regs _ (exec_bitReg b r) fun _ => plain_setFlags ..

theorem isMicro_bitAtHl (b : Fin 8) : IsMicro Plain (.bitAtHl b) :=
  isMicro_read Cpu.hl (fun v c => c.testBit b v) (exec_bitAtHl b) fun _ _ => plain_setFlags ..

theorem isMicro_resReg (b : Fin 8) (r : Reg8) : IsMicro Plain (.resReg b r) :=
  isMicro_regs _ (exec_resReg b r) fun _ => plain_setR8 ..

theorem isMicro_resAtHl (b : Fin 8) : IsMicro Plain (.resAtHl b) :=
  isMicro_update (fun _ w => resetBit b w) (fun _ _ => id) (exec_resAtHl b) (fun _ _ _ => plain_of_flags_kept rfl)
    fun s => by fin_cases b <;> rfl

theorem isMicro_setReg (b : Fin 8) (r : Reg8) : IsMicro Plain (.setReg b r) :=
  isMicro_regs _ (exec_setReg b r) fun _ => plain_setR8 ..

theorem isMicro_setAtHl (b : Fin 8) : IsMicro Plain (.setAtHl b) :=
  isMicro_update (fun _ w => setBit b w) (fun _ _ => id) (exec_setAtHl b) (fun _ _ _ => plain_of_flags_kept rfl)
    fun s => by fin_cases b <;> rfl

theorem isMicro_cbEntry (op2 : Byte) : IsMicro Plain (cbEntry op2) :=
  cbEntry_families (P := fun _ i => IsMicro Plain i) isMicro_shiftReg isMicro_shiftAtHl isMicro_bitReg isMicro_bitAtHl
    isMicro_resReg isMicro_resAtHl isMicro_setReg isMicro_setAtHl op2

/-- The byte 0xCB fetches another and goes on as the CB instruction it selects (R489). The fetch keeps HL. -/
theorem isMicro_prefixCb : IsMicro Plain .prefixCb := by
  choose m hm using isMicro_cbEntry
  refine ⟨.fetch8 m, fun s => ?_, fun _ _ v => ⟨fun d => plain_setPc d _, (hm v).writes⟩, fun s => ?_⟩
  · exact (cbMeaning_eq ..).trans ((hm _).exec_eq _)
  · have hstore : storeAddrs (cbEntry s.fetch8.1) s.fetch8.2 = cbStoreAddrs s.fetch8.1 s := by
      rw [storeAddrs, encode_cbEntry]
      simp [cbStoreAddrs, Cpu.hl]
    have hsub := (hm s.fetch8.1).stores s.fetch8.2
    rw [hstore] at hsub
    exact hsub

/-! ## The instructions that write control state -/

theorem mayWrite_di (c : Cpu) : MayWrite .di c { c with ime := false, imeLatch := false } :=
  ⟨rfl, rfl, rfl, fun _ => rfl, id, fun h => absurd rfl h, fun _ h => absurd rfl h, fun _ => ⟨rfl, rfl⟩,
    fun _ => ⟨rfl, rfl⟩, fun _ => rfl⟩

theorem mayWrite_ei (c : Cpu) : MayWrite .ei c { c with imeLatch := true } :=
  ⟨rfl, rfl, rfl, fun _ => rfl, id, fun _ _ => rfl, fun h => absurd rfl h, fun _ => ⟨rfl, rfl⟩,
    fun _ => ⟨rfl, rfl⟩, fun _ => rfl⟩

theorem mayWrite_reti (c : Cpu) : MayWrite .reti c { c with ime := true } :=
  ⟨rfl, rfl, rfl, fun _ => rfl, id, fun _ h => absurd rfl h, fun _ _ => rfl, fun _ => ⟨rfl, rfl⟩,
    fun _ => ⟨rfl, rfl⟩, fun _ => rfl⟩

theorem mayWrite_halt (c : Cpu) : MayWrite .halt c
    (if c.ime = false ∧ c.pending ≠ 0 then { c with haltBug := true } else { c with halted := true }) := by
  split <;> exact ⟨rfl, rfl, rfl, fun _ => rfl, id, fun _ _ => rfl, fun _ _ => rfl, fun h => absurd rfl h,
    fun _ => ⟨rfl, rfl⟩, fun _ => rfl⟩

theorem mayWrite_unassigned (k : Fin 11) (c : Cpu) : MayWrite (.unassigned k) c { c with locked := true } :=
  ⟨rfl, rfl, rfl, fun _ => rfl, id, fun _ _ => rfl, fun _ _ => rfl, fun _ => ⟨rfl, rfl⟩,
    fun _ => ⟨rfl, rfl⟩, fun h => absurd rfl (h k)⟩

theorem mayWrite_speedSwitch (c : Cpu) :
    MayWrite .stop c { c with key1Speed := !c.key1Speed, key1Prepare := false } :=
  ⟨rfl, rfl, rfl, fun h => absurd rfl h, id, fun _ _ => rfl, fun _ _ => rfl, fun _ => ⟨rfl, rfl⟩,
    fun h => absurd rfl h, fun _ => rfl⟩

theorem mayWrite_stopped (c : Cpu) : MayWrite .stop c { c with stopped := true } :=
  ⟨rfl, rfl, rfl, fun _ => rfl, id, fun _ _ => rfl, fun _ _ => rfl, fun _ => ⟨rfl, rfl⟩,
    fun h => absurd rfl h, fun _ => rfl⟩

/-- STOP writes PC, and then either switches the speed or stops (R488). -/
theorem isMicro_stop : IsMicro (MayWrite .stop) .stop := by
  refine ⟨.regs (fun d => { d with pc := d.pc + 1 }) (.look fun md c =>
    if md = .cgb ∧ c.key1Prepare = true then
      .regs (fun d => { d with key1Speed := !d.key1Speed, key1Prepare := false }) .done
    else .regs (fun d => { d with stopped := true }) .done), fun s => ?_,
    ⟨fun d => (plain_setPc d _).mayWrite _, fun md c => ?_⟩, fun s => ?_⟩
  · rw [exec_stop, execStop]
    simp only [Micro.run, State.onCpu_fields]
    cases s.model <;> cases s.cpu.key1Prepare <;> rfl
  · beta_reduce
    split
    · exact ⟨mayWrite_speedSwitch, trivial⟩
    · exact ⟨mayWrite_stopped, trivial⟩
  · simp only [Micro.stores]
    split <;> exact List.nil_subset _

/-- RETI returns as RET does and then writes IME (R450). -/
theorem isMicro_reti : IsMicro (MayWrite .reti) .reti :=
  ⟨Micro.return_.andThen (.regs (fun d => { d with ime := true }) .done), exec_reti,
    Micro.all_andThen (Micro.all_return.mono fun h => h.mayWrite _) ⟨mayWrite_reti, trivial⟩,
    fun _ => List.nil_subset _⟩

/-! ## Every instruction -/

/-- Every instruction is a program of micro-operations, family by family. -/
theorem exec_isMicro (i : Instr) : IsMicro (MayWrite i) i := by
  apply exec_families (P := fun i => IsMicro (MayWrite i) i)
  case di => exact isMicro_regs _ exec_di mayWrite_di
  case ei => exact isMicro_regs _ exec_ei mayWrite_ei
  case halt => exact isMicro_regs _ exec_halt mayWrite_halt
  case stop => exact isMicro_stop
  case reti => exact isMicro_reti
  case unassigned => exact fun k => isMicro_regs _ (exec_unassigned k) (mayWrite_unassigned k)
  all_goals
    intros
    apply IsMicro.mayWrite
  case ldReg r q => exact isMicro_regs _ (exec_ldReg r q) fun _ => plain_setR8 ..
  case ldImm r v => exact isMicro_regs _ (exec_ldImm r v) fun _ => plain_setR8 ..
  case ldPairImm p w => exact isMicro_regs _ (exec_ldPairImm p w) fun _ => plain_setPair ..
  case aluReg op r => exact isMicro_regs _ (exec_aluReg op r) fun _ => plain_putR8 ..
  case aluImm op v => exact isMicro_regs _ (exec_aluImm op v) fun _ => plain_putR8 ..
  case incReg r => exact isMicro_regs _ (exec_incReg r) fun _ => plain_putR8 ..
  case decReg r => exact isMicro_regs _ (exec_decReg r) fun _ => plain_putR8 ..
  case rlca => exact isMicro_regs _ exec_rlca fun _ => plain_putR8 ..
  case rrca => exact isMicro_regs _ exec_rrca fun _ => plain_putR8 ..
  case rla => exact isMicro_regs _ exec_rla fun _ => plain_putR8 ..
  case rra => exact isMicro_regs _ exec_rra fun _ => plain_putR8 ..
  case daa => exact isMicro_regs _ exec_daa fun _ => plain_putR8 ..
  case cpl => exact isMicro_regs _ exec_cpl fun _ => ⟨rfl, fun _ => packFlags_low ..⟩
  case scf => exact isMicro_regs _ exec_scf fun _ => plain_setFlags ..
  case ccf => exact isMicro_regs _ exec_ccf fun _ => plain_setFlags ..
  case nop => exact isMicro_regs id exec_nop plain_refl
  case jpHl => exact isMicro_regs (fun d => { d with pc := d.hl }) exec_jpHl fun _ => plain_setPc ..
  case ldRegAtHl r => exact isMicro_read Cpu.hl (fun v d => d.setR8 r v) (exec_ldRegAtHl r) fun _ _ => plain_setR8 ..
  case ldAAtBc => exact isMicro_read Cpu.bc (fun v d => d.setR8 .a v) exec_ldAAtBc fun _ _ => plain_setR8 ..
  case ldAAtDe => exact isMicro_read Cpu.de (fun v d => d.setR8 .a v) exec_ldAAtDe fun _ _ => plain_setR8 ..
  case ldAAtC =>
    exact isMicro_read (highPage ·.c) (fun v d => d.setR8 .a v) exec_ldAAtC fun _ _ => plain_setR8 ..
  case ldAAtAddr a =>
    exact isMicro_read (fun _ => a) (fun v d => d.setR8 .a v) (exec_ldAAtAddr a) fun _ _ => plain_setR8 ..
  case ldhAAtOff o =>
    exact isMicro_read (fun _ => highPage o) (fun v d => d.setR8 .a v) (exec_ldhAAtOff o) fun _ _ => plain_setR8 ..
  case ldAAtHlInc =>
    exact isMicro_read Cpu.hl (fun v d => Cpu.setHl { d with a := v } (d.hl + 1)) exec_ldAAtHlInc
      fun _ _ => plain_of_flags_kept rfl
  case ldAAtHlDec =>
    exact isMicro_read Cpu.hl (fun v d => Cpu.setHl { d with a := v } (d.hl + -1)) exec_ldAAtHlDec
      fun _ _ => plain_of_flags_kept rfl
  case aluAtHl op => exact isMicro_read Cpu.hl (fun v d => d.alu op v) (exec_aluAtHl op) fun _ _ => plain_putR8 ..
  case ldAtHlReg r =>
    exact isMicro_write Cpu.hl (·.r8 r) id (exec_ldAtHlReg r) plain_refl fun s => by cases r <;> rfl
  case ldAtHlImm v => exact isMicro_write Cpu.hl (fun _ => v) id (exec_ldAtHlImm v) plain_refl fun _ => rfl
  case ldAtBcA => exact isMicro_write Cpu.bc Cpu.a id exec_ldAtBcA plain_refl fun _ => rfl
  case ldAtDeA => exact isMicro_write Cpu.de Cpu.a id exec_ldAtDeA plain_refl fun _ => rfl
  case ldAtCA => exact isMicro_write (highPage ·.c) Cpu.a id exec_ldAtCA plain_refl fun _ => rfl
  case ldhAtOffA o =>
    exact isMicro_write (fun _ => highPage o) Cpu.a id (exec_ldhAtOffA o) plain_refl fun _ => rfl
  case ldAtAddrA a =>
    exact isMicro_write (fun _ => a) Cpu.a id (exec_ldAtAddrA a) plain_refl
      fun _ => congrArg ([·]) (wordOf_halves a)
  case ldAtHlIncA =>
    exact isMicro_write Cpu.hl Cpu.a (fun d => d.setHl (d.hl + 1)) exec_ldAtHlIncA
      (fun _ => plain_of_flags_kept rfl) fun _ => rfl
  case ldAtHlDecA =>
    exact isMicro_write Cpu.hl Cpu.a (fun d => d.setHl (d.hl + -1)) exec_ldAtHlDecA
      (fun _ => plain_of_flags_kept rfl) fun _ => rfl
  case incAtHl =>
    exact isMicro_update (fun c w => (inc8 w c.flagC).value) (fun c w d => d.putFlags (inc8 w c.flagC)) exec_incAtHl
      (fun _ _ _ => plain_setFlags ..) fun _ => rfl
  case decAtHl =>
    exact isMicro_update (fun c w => (dec8 w c.flagC).value) (fun c w d => d.putFlags (dec8 w c.flagC)) exec_decAtHl
      (fun _ _ _ => plain_setFlags ..) fun _ => rfl
  case addHlPair p =>
    exact isMicro_idle _ (fun _ => id) (exec_addHlPair p) (fun _ => ⟨rfl, fun _ => packFlags_low ..⟩)
      fun _ => plain_refl
  case incPair p => exact isMicro_idle _ (fun _ => id) (exec_incPair p) (fun _ => plain_setPair ..) fun _ => plain_refl
  case decPair p => exact isMicro_idle _ (fun _ => id) (exec_decPair p) (fun _ => plain_setPair ..) fun _ => plain_refl
  case ldHlSpImm e =>
    exact isMicro_idle _ (fun _ => id) (exec_ldHlSpImm e) (fun _ => ⟨rfl, fun _ => packFlags_low ..⟩)
      fun _ => plain_refl
  case ldSpHl =>
    exact isMicro_idle id (fun c d => { d with sp := c.hl }) exec_ldSpHl plain_refl fun _ _ => plain_setSp ..
  case jp a => exact isMicro_idle id (fun _ d => { d with pc := a }) (exec_jp a) plain_refl fun _ _ => plain_setPc ..
  case jr e =>
    exact isMicro_idle id (fun c d => { d with pc := c.pc + sext16 e }) (exec_jr e) plain_refl
      fun _ _ => plain_setPc ..
  case addSpImm e =>
    exact ⟨.regs _ (.idle (.idle .done)), exec_addSpImm e, ⟨fun _ => ⟨rfl, fun _ => packFlags_low ..⟩, trivial⟩,
      fun _ => List.nil_subset _⟩
  case push p =>
    exact ⟨.look fun _ c => .idle (.push16 (c.stackPair p) .done), exec_push p,
      fun _ _ => Micro.all_push16 trivial,
      fun s => subset_of_eq ((Micro.stores_idle_push16 (s.cpu.stackPair p) s .done).trans (by cases p <;> rfl))⟩
  case pop p =>
    exact ⟨.pop16 fun v => .regs (·.setStackPair p v) .done, exec_pop p,
      Micro.all_pop16 fun v => ⟨fun _ => plain_setStackPair .., trivial⟩, fun _ => List.nil_subset _⟩
  case ret => exact ⟨.return_, exec_ret, Micro.all_return, fun _ => List.nil_subset _⟩
  case call a => exact ⟨.callTo a, exec_call a, Micro.all_callTo a, fun s => subset_of_eq (Micro.stores_callTo a s)⟩
  case rst k =>
    exact ⟨.callTo (restartTarget k), exec_rst k, Micro.all_callTo _,
      fun s => subset_of_eq ((Micro.stores_callTo _ s).trans (by fin_cases k <;> rfl))⟩
  case ldAtAddrSp a =>
    exact ⟨.look fun _ c => .write a (loByte c.sp) (.write (a + 1) (hiByte c.sp) .done), exec_ldAtAddrSp a,
      fun _ _ => trivial, fun s => subset_of_eq (congrArg (fun b => [b, b + 1]) (wordOf_halves a)).symm⟩
  case jpCond cc a =>
    exact isMicro_cond cc (.jumpTo a) .done (exec_jpCond cc a) (Micro.all_jumpTo a) trivial
      (fun _ _ => List.nil_subset _) fun _ => rfl
  case jrCond cc e =>
    exact isMicro_cond cc (.look fun _ c => .jumpTo (c.pc + sext16 e)) .done (exec_jrCond cc e)
      (fun _ _ => Micro.all_jumpTo _) trivial (fun _ _ => List.nil_subset _) fun _ => rfl
  case callCond cc a =>
    exact isMicro_cond cc (.callTo a) .done (exec_callCond cc a) (Micro.all_callTo a) trivial
      (fun s h => subset_of_eq ((Micro.stores_callTo a s).trans (by cases cc <;> exact (if_pos h).symm))) fun _ => rfl
  case retCond cc =>
    exact isMicro_cond cc (.idle .return_) (.idle .done) (exec_retCond cc) Micro.all_return trivial
      (fun _ _ => List.nil_subset _) fun _ => rfl
  case shiftReg op r => exact isMicro_shiftReg op r
  case shiftAtHl op => exact isMicro_shiftAtHl op
  case bitReg b r => exact isMicro_bitReg b r
  case bitAtHl b => exact isMicro_bitAtHl b
  case resReg b r => exact isMicro_resReg b r
  case resAtHl b => exact isMicro_resAtHl b
  case setReg b r => exact isMicro_setReg b r
  case setAtHl b => exact isMicro_setAtHl b
  case prefixCb => exact isMicro_prefixCb

end Sys2Proof.Machine
end

section
/-! SUPPORT. `Step` as one program of micro-operations (R585), and what a step keeps of the control state. -/

namespace Sys2Proof.Machine

open Sys2Proof.Certificates

/-! ## The control state that an instruction keeps -/

theorem ControlKept.trans {i : Instr} {c d e : Cpu} (h : ControlKept i c d) (h' : ControlKept i d e) :
    ControlKept i c e where
  ime h1 h2 := (h'.ime h1 h2).trans (h.ime h1 h2)
  imeLatch h1 h2 := (h'.imeLatch h1 h2).trans (h.imeLatch h1 h2)
  halt h1 := ⟨(h'.halt h1).1.trans (h.halt h1).1, (h'.halt h1).2.trans (h.halt h1).2⟩
  stop h1 := ⟨(h'.stop h1).1.trans (h.stop h1).1, (h'.stop h1).2.trans (h.stop h1).2⟩
  locked h1 := (h'.locked h1).trans (h.locked h1)

/-- An M-cycle keeps all control state. -/
theorem controlKept_of_keepsRegisters {s t : State} (h : KeepsRegisters s t) (i : Instr) :
    ControlKept i s.cpu t.cpu := by
  obtain ⟨-, hcpu⟩ := h
  exact ⟨fun _ _ => by rw [hcpu], fun _ _ => by rw [hcpu], fun _ => by rw [hcpu]; exact ⟨rfl, rfl⟩,
    fun _ => by rw [hcpu]; exact ⟨rfl, rfl⟩, fun _ => by rw [hcpu]⟩

/-- What `exec` keeps of the control state and of MODEL (R48 to R53, R57). -/
theorem exec_controlKept {i : Instr} {s t : State} (h : exec i s = .next t) :
    ControlKept i s.cpu t.cpu ∧ t.model = s.model := by
  obtain ⟨m, hm⟩ := exec_isMicro i
  obtain rfl : m.run s = t := Host.Outcome.next.inj ((hm.exec_eq s).symm.trans h)
  have hcycle : ∀ {u v : State}, KeepsRegisters u v → ControlKept i s.cpu u.cpu ∧ u.model = s.model →
      ControlKept i s.cpu v.cpu ∧ v.model = s.model :=
    fun hk hu => ⟨hu.1.trans (controlKept_of_keepsRegisters hk i), hk.1.trans hu.2⟩
  refine Micro.run_keeps (P := fun u => ControlKept i s.cpu u.cpu ∧ u.model = s.model)
    (fun u g hg hu => ⟨hu.1.trans (hg u.cpu).control, hu.2⟩) (fun u => hcycle (busCyclesKeepRegisters u 0 0).2.2)
    (fun u a => hcycle (busCyclesKeepRegisters u a 0).2.1) (fun u a v => hcycle (busCyclesKeepRegisters u a v).1)
    hm.writes ⟨?_, rfl⟩
  exact ⟨fun _ _ => rfl, fun _ _ => rfl, fun _ => ⟨rfl, rfl⟩, fun _ => ⟨rfl, rfl⟩, fun _ => rfl⟩

/-- The fetches of an instruction clear the halt bug and keep the rest of the control state. -/
theorem State.fetchInstr_keeps (s : State) :
    s.fetchInstr.2.cpu.haltBug = false ∧ s.fetchInstr.2.cpu.ime = s.cpu.ime ∧
    s.fetchInstr.2.cpu.imeLatch = s.cpu.imeLatch ∧ s.fetchInstr.2.cpu.halted = s.cpu.halted ∧
    s.fetchInstr.2.cpu.stopped = s.cpu.stopped ∧ s.fetchInstr.2.cpu.locked = s.cpu.locked := by
  rw [State.fetchInstr_eq]
  cases primaryEntry s.fetchOpcode.1 <;> simp [State.fetchRest, State.fetch16]

/-! ## Step as a program -/

namespace Micro

/-- What follows the opcode fetch: the operand fetches that the entry asks for, then the program of the instruction. -/
def fetchRest (P : Instr → Micro) : Entry → Micro
  | .one i => P i
  | .skip i => P i
  | .imm8 f => fetch8 fun v => P (f v)
  | .imm16 f => fetch8 fun lo => fetch8 fun hi => P (f (wordOf hi lo))
  | .cb => fetch8 fun v => P (cbEntry v)

/-- The opcode fetch (R585, step E1) and what follows it. -/
def fetchAndRun (P : Instr → Micro) : Micro :=
  look fun _ c => read c.pc fun op =>
    regs (fun d => if d.haltBug then { d with haltBug := false } else { d with pc := d.pc + 1 })
      (fetchRest P (primaryEntry op))

/-- The EI promotion (R586). -/
def promote (latch : Bool) : Micro :=
  regs (fun d => { d with ime := d.ime || (latch && d.imeLatch), imeLatch := d.imeLatch && !latch }) done

/-- One instruction (R585, steps E1 to E3). -/
def instr (P : Instr → Micro) : Micro := look fun _ c => (fetchAndRun P).andThen (promote c.imeLatch)

/-- What a dispatch does after the acknowledge (R526 to R530). -/
def enterHandler (ret vector : Word) : Micro :=
  idle (idle (push16 ret (idle (regs (fun d => { d with pc := vector }) done))))

/-- A dispatch (R525 to R530). -/
def dispatch : Micro :=
  look fun _ c => regs (·.acknowledge (lowestPending c.pending))
    (enterHandler c.returnAddress (vectorOf (lowestPending c.pending)))

/-- `Step` (R585, steps L, S, H, D and E). -/
def step (P : Instr → Micro) : Micro :=
  look fun _ c =>
    if c.locked then idle done
    else if c.stopped then done
    else if c.halted ∧ c.pending = 0 then idle done
    else regs (fun d => { d with halted := false }) (if c.ime ∧ c.pending ≠ 0 then dispatch else instr P)

theorem all_enterHandler (ret vector : Word) : (enterHandler ret vector).All Plain :=
  all_push16 (k := idle (regs (fun d => { d with pc := vector }) done)) ⟨fun d => plain_setPc d vector, trivial⟩

theorem run_dispatch (s : State) : dispatch.run s = s.takeInterrupt := rfl

theorem run_promote (latch : Bool) (s : State) : (promote latch).run s = s.promote latch :=
  (s.promote_keeps latch).symm

section Programs

variable {P : Instr → Micro} (hP : ∀ i s, exec i s = .next ((P i).run s))
include hP

theorem exec_fetchRest (e : Entry) (t : State) :
    exec (t.fetchRest e).1 (t.fetchRest e).2 = .next ((fetchRest P e).run t) := by
  cases e <;> exact hP ..

theorem runInstr_eq (s : State) : s.runInstr = .next ((instr P).run s) := by
  rw [State.runInstr, State.fetchInstr_eq, exec_fetchRest hP, endInstruction, ← run_promote]
  exact congrArg Host.Outcome.next (run_andThen (fetchAndRun P) (promote s.cpu.imeLatch) s).symm

theorem specStep_eq (s : State) : s.specStep = .next ((step P).run s) := by
  rw [step, run]
  split_ifs with hl hs hh hd
  · exact s.specStep_finished _ (s.boundary_locked hl)
  · exact s.specStep_finished _ (s.boundary_stopped (eq_false_of_ne_true hl) hs)
  · exact s.specStep_finished _ (s.boundary_halted (eq_false_of_ne_true hl) (eq_false_of_ne_true hs) hh)
  · exact s.specStep_finished _ (s.boundary_dispatch (eq_false_of_ne_true hl) (eq_false_of_ne_true hs) hd)
  · exact (s.specStep_instr _ (s.boundary_run (eq_false_of_ne_true hl) (eq_false_of_ne_true hs) hh hd)).trans
      (runInstr_eq hP s.wake)

end Programs

section Flags

variable {P : Instr → Micro} (hP : ∀ i, (P i).All KeepsFlagsLow)
include hP

theorem all_fetchRest (e : Entry) : (fetchRest P e).All KeepsFlagsLow := by
  cases e with
  | one i | skip i => exact hP i
  | imm8 f => exact fun _ _ _ => ⟨fun _ => id, hP _⟩
  | imm16 f => exact fun _ _ _ => ⟨fun _ => id, fun _ _ _ => ⟨fun _ => id, hP _⟩⟩
  | cb => exact fun _ _ _ => ⟨fun _ => id, hP _⟩

theorem all_instr : (instr P).All KeepsFlagsLow :=
  fun _ _ => all_andThen (fun _ _ _ => ⟨fun _ => by dsimp only; split <;> exact id, all_fetchRest hP _⟩)
    ⟨fun _ => id, trivial⟩

theorem all_step : (step P).All KeepsFlagsLow := by
  intro md c
  beta_reduce
  split_ifs
  · trivial
  · trivial
  · trivial
  · exact ⟨fun _ => id, fun _ _ => ⟨fun _ => id, (all_enterHandler _ _).mono fun h => h.2⟩⟩
  · exact ⟨fun _ => id, all_instr hP⟩

end Flags
end Micro

end Sys2Proof.Machine
end

section
/-! PROOFS. The whole machine: every step answers (R18), who writes the control state (R48 to R53, R57), EI's delay
(R586), and that every step and every run keeps a legal state legal. -/

namespace Sys2Proof.Machine

open Sys2Proof.Certificates

/-! ## Every step answers, as a program -/

/-- `Step` is a program of micro-operations that keeps F[3:0] = 0. -/
theorem specStep_isMicro : ∃ m : Micro, m.All KeepsFlagsLow ∧ ∀ s : State, s.specStep = .next (m.run s) := by
  choose P hP using exec_isMicro
  have hlow : ∀ i, (P i).All KeepsFlagsLow := fun i => (hP i).writes.mono fun h => h.flagsLow
  refine ⟨.step P, Micro.all_step hlow, Micro.specStep_eq fun i => (hP i).exec_eq⟩

/-- Settles O17. -/
theorem everyStepAnswersANextState : Obligations.EveryStepAnswersANextState := by
  unfold Obligations.EveryStepAnswersANextState
  obtain ⟨m, -, hm⟩ := specStep_isMicro
  refine ⟨fun i s => ?_, fun s => ⟨_, hm s.hostTurn⟩⟩
  obtain ⟨m, hm⟩ := exec_isMicro i
  exact ⟨_, hm.exec_eq s⟩

/-- Settles O20. -/
theorem onlyTheseInstructionsWriteControlState : Obligations.OnlyTheseInstructionsWriteControlState := by
  unfold Obligations.OnlyTheseInstructionsWriteControlState
  intro i s t h
  obtain ⟨hc, hmodel⟩ := exec_controlKept h
  exact ⟨hc.ime, hc.imeLatch, hc.halt, hc.stop, hc.locked, hmodel⟩

/-! ## EI's delay -/

/-- What an instruction leaves of IME and the latch: what `exec` leaves, and then the promotion (R586). -/
theorem State.runInstr_ime {s t : State} (h : s.runInstr = .next t) :
    ∃ u, exec s.fetchInstr.1 s.fetchInstr.2 = .next u ∧
      t.cpu.ime = (u.cpu.ime || (s.cpu.imeLatch && u.cpu.imeLatch)) ∧
      t.cpu.imeLatch = (u.cpu.imeLatch && !s.cpu.imeLatch) := by
  obtain ⟨u, hu, rfl⟩ := (endInstruction_next ..).mp h
  rw [u.promote_keeps]
  exact ⟨u, hu, rfl, rfl⟩

/-- Settles O13 (R586). -/
theorem eiTakesEffectAfterNextInstruction : Obligations.EiTakesEffectAfterNextInstruction := by
  unfold Obligations.EiTakesEffectAfterNextInstruction
  refine ⟨fun s t hlatch hi h => ?_, fun s t hlatch hi h => ?_, fun s t hi h => ?_⟩ <;>
    obtain ⟨u, hu, hime, hl⟩ := s.runInstr_ime h <;>
    obtain ⟨-, fime, flatch, -⟩ := s.fetchInstr_keeps
  · rw [hi, exec_ei, execEi, Host.Outcome.next.injEq] at hu
    subst hu
    simp [hime, hl, hlatch, fime]
  · have hset : u.cpu.imeLatch = true := by
      by_cases hei : s.fetchInstr.1 = .ei
      · rw [hei, exec_ei, execEi, Host.Outcome.next.injEq] at hu
        subst hu
        rfl
      · rw [(exec_controlKept hu).1.imeLatch hei hi, flatch, hlatch]
    simp [hime, hl, hlatch, hset]
  · rw [hi, exec_di, execDi, Host.Outcome.next.injEq] at hu
    subst hu
    simp [hime, hl]

/-! ## Legal states -/

/-- F after a reset is the draw's flags over four zeros. -/
theorem flags_append_zero : ∀ flags : BitVec 4, (flags ++ (0 : BitVec 4) : Byte) &&& 0x0F = 0 ∧
    (flags ++ (0 : BitVec 4) : Byte).extractLsb' 4 4 = flags := by
  decide

/-- F[3:0] = 0 and no wait, whatever the model and the boot choice (R43, R60). -/
theorem Cpu.afterReset_legal (md : Model) (b : Boot) : (Cpu.afterReset md b).legal := by
  have hdraw : ∀ (draw : BootRegs) pc iflag, (Cpu.ofDraw draw pc iflag).legal :=
    fun draw _ _ => ⟨(flags_append_zero draw.flags).1, Nat.zero_le 1⟩
  cases md <;> cases b <;> exact hdraw ..

/-- The host's actions keep a legal state legal: a save state that is loaded was saved from a legal one (R583). -/
theorem State.hostAct_legal {s : State} (hs : s.legal) {act : HostAction} (hact : act.legal) :
    (s.hostAct act).legal := by
  obtain ⟨⟨hf, hw⟩, hmem, hhost⟩ := hs
  cases act with
  | inputEdge joypad =>
    have hwoken : (s.onCpu fun c => { c with stopped := false }).cpu.oneWait := by
      simp only [Cpu.oneWait, State.onCpu_fields] at hw ⊢
      simp
      omega
    cases joypad <;> exact ⟨⟨hf, hwoken⟩, hmem, hhost⟩
  | reset md b contents ramEnable => exact ⟨Cpu.afterReset_legal md b, Memory.wf_pokeAll _ _ hmem, hhost⟩
  | loadState versionMatches saved =>
    cases versionMatches with
    | false => exact ⟨⟨hf, hw⟩, hmem, hhost⟩
    | true => exact ⟨hact, hmem, hhost⟩
  | breakpoint addr =>
    rw [State.hostAct]
    split <;> exact ⟨⟨hf, hw⟩, hmem, hhost⟩
  | setDebugging on => exact ⟨⟨hf, hw⟩, hmem, hhost⟩

theorem State.hostTurn_legal {s : State} (hs : s.legal) : s.hostTurn.legal := by
  obtain ⟨hcpu, hmem, hhost⟩ := hs
  rw [State.hostTurn]
  split
  · exact ⟨hcpu, hmem, hhost⟩
  · rename_i turn later hqueue
    rw [hqueue] at hhost
    refine List.foldlRecOn turn State.hostAct ⟨hcpu, hmem, fun u hu => hhost u (List.mem_cons_of_mem _ hu)⟩
      fun u hu act hact => ?_
    exact State.hostAct_legal hu (hhost turn List.mem_cons_self act hact)

/-- The wait states and the halt bug after an instruction that ran while none of them held. -/
theorem exec_oneWait {i : Instr} {s t : State} (h : exec i s = .next t) (hhalted : s.cpu.halted = false)
    (hbug : s.cpu.haltBug = false) (hstopped : s.cpu.stopped = false) (hlocked : s.cpu.locked = false) :
    t.cpu.oneWait := by
  obtain ⟨hc, -⟩ := exec_controlKept h
  by_cases hhalt : i = .halt
  · subst hhalt
    rw [exec_halt, execHalt, Host.Outcome.next.injEq] at h
    subst h
    simp only [State.onCpu_fields, Cpu.oneWait]
    split <;> simp [*]
  by_cases hstop : i = .stop
  · subst hstop
    obtain ⟨khalted, kbug⟩ := hc.halt nofun
    have klocked := hc.locked fun k => by fin_cases k <;> nofun
    simpa [Cpu.oneWait, *] using Bool.toNat_le _
  · obtain ⟨khalted, kbug⟩ := hc.halt hhalt
    obtain ⟨kstopped, -⟩ := hc.stop hstop
    simpa [Cpu.oneWait, *] using Bool.toNat_le _

theorem State.specStep_oneWait {s t : State} (hs : s.cpu.oneWait) (h : s.specStep = .next t) : t.cpu.oneWait := by
  obtain ⟨he, -⟩ | ⟨he, -⟩ | ⟨he, -⟩ | ⟨he, hl, hst, -⟩ := s.specStep_cases <;> rw [he] at h
  · obtain rfl := Host.Outcome.next.inj h
    simpa [Cpu.oneWait] using hs
  · obtain rfl := Host.Outcome.next.inj h
    exact hs
  · obtain rfl := Host.Outcome.next.inj h
    simp only [Cpu.oneWait] at hs
    simp [Cpu.oneWait, State.takeInterrupt]
    omega
  · obtain ⟨u, hu, rfl⟩ := (endInstruction_next ..).mp h
    obtain ⟨fbug, -, -, fhalted, fstopped, flocked⟩ := s.wake.fetchInstr_keeps
    rw [u.promote_keeps]
    have hwait : u.cpu.oneWait := exec_oneWait hu fhalted fbug (fstopped.trans hst) (flocked.trans hl)
    exact hwait

/-- Settles O18. The host's turn keeps the state legal. Of the Step after it, every micro-operation keeps F[3:0] = 0,
the canonical memory and the host's queue; that at most one wait holds is a matter of what the Step comes to. -/
theorem stepKeepsStateLegal : Obligations.StepKeepsStateLegal := by
  unfold Obligations.StepKeepsStateLegal
  intro s t hs h
  obtain ⟨⟨hf, hw⟩, hmem, hhost⟩ := State.hostTurn_legal hs
  obtain ⟨m, hlow, hm⟩ := specStep_isMicro
  have hwait := State.specStep_oneWait hw h
  obtain rfl : m.run s.hostTurn = t := Host.Outcome.next.inj ((hm s.hostTurn).symm.trans h)
  obtain ⟨tf, tmem, thost⟩ := Micro.run_keeps (R := KeepsFlagsLow)
    (P := fun u => u.cpu.f &&& 0x0F = 0 ∧ u.platform.mem.wf ∧ u.platform.host = s.hostTurn.platform.host)
    (fun u g hg hu => ⟨hg u.cpu hu.1, hu.2⟩) (fun u hu => ⟨by simpa using hu.1, u.idle_wf hu.2.1, hu.2.2⟩)
    (fun u a hu => ⟨by simpa using hu.1, u.afterRead_wf a hu.2.1, by simpa using hu.2.2⟩)
    (fun u a v hu => ⟨by simpa using hu.1, u.write_wf a v hu.2.1, by simpa using hu.2.2⟩) hlow ⟨hf, hmem, rfl⟩
  exact ⟨⟨tf, hwait⟩, tmem, thost ▸ hhost⟩

/-- Settles O19, by induction on the length of the run. -/
theorem everyRunFromALegalStateIsSafe : Obligations.EveryRunFromALegalStateIsSafe := by
  unfold Obligations.EveryRunFromALegalStateIsSafe
  intro n
  induction n with
  | zero => exact fun s hs => ⟨s, rfl, hs⟩
  | succ n ih =>
    intro s hs
    obtain ⟨t, ht⟩ := everyStepAnswersANextState.2 s
    obtain ⟨u, hu, hlegal⟩ := ih t (stepKeepsStateLegal s t hs ht)
    exact ⟨u, (core_run_succ core n s t ht).trans hu, hlegal⟩

end Sys2Proof.Machine
end

section
/-! PROOFS. The bus sequence and the time of every instruction (R588, R594). `State.runInstr_account` gives both from
the machine after the opcode fetch; the fetch keeps F, so the condition is the one before it. -/

namespace Sys2Proof.Machine

open Sys2Proof.Certificates

theorem State.cond_fetchOpcode (s : State) (cc : Cond) : s.fetchOpcode.2.cpu.cond cc = s.cpu.cond cc :=
  cond_congr _ _ cc (by simp)

theorem seqFrom_fetchOpcode (s : State) : seqFrom s.fetchOpcode.1 s.fetchOpcode.2 = sequenceAhead s := by
  rw [seqFrom, s.cond_fetchOpcode, sequenceAhead]

theorem timeFrom_fetchOpcode (s : State) : timeFrom s.fetchOpcode.1 s.fetchOpcode.2 = timingAhead s := by
  rw [timeFrom, s.cond_fetchOpcode, timingAhead]

/-- Settles O21 (R588). -/
theorem busSequenceOfEveryInstruction : Obligations.BusSequenceOfEveryInstruction := by
  unfold Obligations.BusSequenceOfEveryInstruction
  intro s t h
  rw [← seqFrom_fetchOpcode]
  exact (s.runInstr_account t h).1

/-- Settles O22 (R594). -/
theorem everyInstructionTakesItsTableTime : Obligations.EveryInstructionTakesItsTableTime := by
  unfold Obligations.EveryInstructionTakesItsTableTime
  intro s t h
  rw [← timeFrom_fetchOpcode]
  exact (s.runInstr_account t h).2

end Sys2Proof.Machine
end

section
/-! PROOFS. The debugger (R114, R542, R545): the core reads neither the trace nor the debug flag, so two states that
differ only in those step to states that differ only in those; then the frame driver. -/

namespace Sys2Proof.Machine

open Sys2Proof.Certificates

/-- The same machine with another trace and another debug flag. -/
def State.withDebugger (s : State) (trace : List MCycle) (debugging : Bool) : State :=
  { s with platform := { s.platform with trace := trace, debugging := debugging } }

theorem sameButDebugger_iff (s t : State) : sameButDebugger s t ↔ ∃ tr d, t = s.withDebugger tr d :=
  ⟨fun h => ⟨_, _, h⟩, by rintro ⟨tr, d, rfl⟩; rfl⟩

/-! ## Each micro-operation under another debugger -/

section Ops

variable (s : State) (tr : List MCycle) (d : Bool) (a : Word) (v : Byte)

theorem State.put_withDebugger : (s.withDebugger tr d).put a v = (s.put a v).withDebugger tr d := by
  obtain ⟨md, c, mem, ram, rest⟩ := s
  unfold State.put
  cases regionOf a <;> cases md <;> cases ram <;> rfl

theorem State.accessEffect_withDebugger (e : Effect) :
    (s.withDebugger tr d).accessEffect a e = (s.accessEffect a e).withDebugger tr d := by
  unfold State.accessEffect
  split <;> rfl

theorem State.read_withDebugger : (s.withDebugger tr d).read a = s.read a := rfl

theorem State.afterRead_withDebugger : (s.withDebugger tr d).afterRead a =
    (s.afterRead a).withDebugger (.access a (s.read a) .read :: tr) (d || s.cycleNow.pause) := by
  have htick : (s.withDebugger tr d).tick = s.tick.withDebugger tr d := rfl
  rw [State.afterRead, htick, State.accessEffect_withDebugger]
  rfl

theorem State.write_withDebugger : (s.withDebugger tr d).write a v =
    (s.write a v).withDebugger (.access a v .write :: tr) (d || s.cycleNow.pause) := by
  have htick : (s.withDebugger tr d).tick = s.tick.withDebugger tr d := rfl
  rw [State.write, htick, State.put_withDebugger, State.accessEffect_withDebugger]
  rfl

end Ops

/-- A program reads neither the trace nor the debug flag. -/
theorem Micro.run_withDebugger (m : Micro) (s : State) (tr : List MCycle) (d : Bool) :
    ∃ tr' d', m.run (s.withDebugger tr d) = (m.run s).withDebugger tr' d' := by
  induction m generalizing s tr d with
  | done => exact ⟨tr, d, rfl⟩
  | look k ih => exact ih s.model s.cpu s tr d
  | regs g k ih => exact ih (s.onCpu g) tr d
  | idle k ih => exact ih s.idle (.idle :: tr) (d || false)
  | read a k ih =>
    rw [run, s.read_withDebugger, s.afterRead_withDebugger]
    exact ih ..
  | write a v k ih =>
    rw [run, s.write_withDebugger]
    exact ih ..

/-! ## The watch hook -/

theorem State.put_debugging (s : State) (a : Word) (v : Byte) :
    (s.put a v).platform.debugging = s.platform.debugging := by
  obtain ⟨md, c, mem, ram, rest⟩ := s
  unfold State.put
  cases regionOf a <;> cases md <;> cases ram <;> rfl

theorem State.accessEffect_debugging (s : State) (a : Word) (e : Effect) :
    (s.accessEffect a e).platform.debugging = s.platform.debugging := by
  unfold State.accessEffect
  split <;> rfl

/-- The hook, offered a read, may set the flag (R114). -/
theorem State.afterRead_debugging (s : State) (a : Word) :
    (s.afterRead a).platform.debugging = (s.platform.debugging || s.cycleNow.pause) :=
  congrArg (· || s.cycleNow.pause) (s.tick.accessEffect_debugging a _)

/-- The hook, offered a write, may set the flag (R114). -/
theorem State.write_debugging (s : State) (a : Word) (v : Byte) :
    (s.write a v).platform.debugging = (s.platform.debugging || s.cycleNow.pause) :=
  congrArg (· || s.cycleNow.pause) ((State.accessEffect_debugging _ a _).trans (s.tick.put_debugging a v))

/-! ## The frame driver -/

/-- Whether the driver goes on (R542, R545). -/
theorem State.driverGoesOn_iff (s : State) (start budget : Nat) : s.driverGoesOn start budget = true ↔
    s.cpu.cycles - start < budget ∧ s.platform.debugging = false ∧ s.cpu.stopped = false := by
  simp [State.driverGoesOn, and_assoc]

theorem State.drive_stops {s : State} {start budget : Nat} (n : Nat)
    (h : s.hostTurn.driverGoesOn start budget = false) : s.drive start budget (n + 1) = .next s.hostTurn := by
  rw [State.drive, h]
  rfl

theorem State.drive_step {s t : State} {start budget : Nat} (n : Nat)
    (h : s.hostTurn.driverGoesOn start budget = true) (ht : step s = .next t) :
    s.drive start budget (n + 1) = t.drive start budget n := by
  have hspec : s.hostTurn.specStep = .next t := ht
  rw [State.drive, h, hspec]
  rfl

theorem State.hostTurn_cons {s : State} {turn : List HostAction} {later : List (List HostAction)}
    (h : s.platform.host = turn :: later) :
    s.hostTurn = turn.foldl State.hostAct { s with platform := { s.platform with host := later } } := by
  rw [State.hostTurn, h]

/-- Settles O24. -/
theorem coreNeverReadsDebuggerState : Obligations.CoreNeverReadsDebuggerState := by
  unfold Obligations.CoreNeverReadsDebuggerState
  refine ⟨fun s s' t t' hs ht ht' => ?_,
    fun s a v => ⟨s.afterRead_debugging a, s.write_debugging a v, Bool.or_false _⟩,
    fun s start budget n => ⟨fun h => ?_, ?_, ?_, ?_⟩⟩
  · obtain ⟨m, -, hm⟩ := specStep_isMicro
    obtain ⟨tr, d, rfl⟩ := (sameButDebugger_iff s s').mp hs
    obtain rfl := Host.Outcome.next.inj ((hm s).symm.trans ht)
    obtain rfl := Host.Outcome.next.inj ((hm _).symm.trans ht')
    exact (sameButDebugger_iff ..).mpr (m.run_withDebugger s tr d)
  · refine State.drive_stops n (eq_false_of_ne_true fun hon => ?_)
    obtain ⟨hbudget, hdebug, hstopped⟩ := (State.driverGoesOn_iff ..).mp hon
    rcases h with h | h | h
    · simp [hdebug] at h
    · simp [hstopped] at h
    · omega
  · intro later hq
    have hturn : s.hostTurn = { s with platform := { s.platform with host := later, debugging := true } } := by
      rw [State.hostTurn_cons hq]
      exact if_pos rfl
    rw [State.drive_stops n (by rw [hturn]; simp [State.driverGoesOn]), hturn]
  · intro a later ha hq
    rw [State.hostTurn_cons hq]
    exact if_neg ha.symm
  · intro t hdebug hstopped hbudget ht
    exact State.drive_step n ((State.driverGoesOn_iff ..).mpr ⟨hbudget, hdebug, hstopped⟩) ht

end Sys2Proof.Machine
end

section
/-! SUPPORT. The frame of what an address reads as (R103, R106): which M-cycle, which register update and which program
leaves it, where the platform does not touch it. -/

namespace Sys2Proof.Machine

open Sys2Proof.Certificates

/-! ## What the platform does not touch -/

/-- A block's effect leaves what it does not touch. -/
theorem State.peek_applyEffect_of_untouched (s : State) {e : Effect} {a : Word} (h : effectTouches e a = false) :
    (s.applyEffect e).peek a = s.peek a := by
  simp only [effectTouches, Bool.or_eq_false_iff, Bool.and_eq_false_iff, List.any_eq_false, beq_iff_eq] at h
  obtain ⟨⟨hw, hr⟩, hi⟩ := h
  refine s.peek_applyEffect e a hw (fun hext => ?_) fun ha => ?_
  · simpa [hext] using hr
  · simpa [ha] using hi

theorem State.peek_accessEffect_of_untouched (s : State) {e : Effect} {a : Word} (b : Word)
    (h : effectTouches e a = false) : (s.accessEffect b e).peek a = s.peek a := by
  rw [State.accessEffect]
  split
  · rfl
  · exact s.peek_applyEffect_of_untouched h

/-- The coming M-cycle of a machine whose platform leaves `a` alone, and the machine after it. -/
theorem platformTouches_succ {s : State} {n : Nat} {a : Word} (h : platformTouches s (n + 1) a = false) :
    effectTouches s.cycleNow.tick a = false ∧ effectTouches s.cycleNow.access a = false ∧
    ∀ t : State, t.platform.script = s.platform.script.tail → platformTouches t n a = false := by
  unfold platformTouches State.cycleNow at *
  rcases hs : s.platform.script with _ | ⟨c, later⟩
  · refine ⟨rfl, rfl, fun t ht => ?_⟩
    rw [ht]
    simp
  · rw [hs, List.take_succ_cons, List.any_cons, Bool.or_eq_false_iff, Bool.or_eq_false_iff] at h
    obtain ⟨⟨htick, haccess⟩, hlater⟩ := h
    exact ⟨htick, haccess, fun t ht => by rw [ht]; exact hlater⟩

section MCycles

variable {s : State} {a : Word} (htick : effectTouches s.cycleNow.tick a = false)
include htick

theorem State.peek_tick : s.tick.peek a = s.peek a :=
  State.peek_applyEffect_of_untouched _ htick

theorem State.peek_idle : s.idle.peek a = s.peek a := State.peek_tick htick

variable (haccess : effectTouches s.cycleNow.access a = false)
include haccess

theorem State.peek_afterRead (b : Word) : (s.afterRead b).peek a = s.peek a :=
  (s.tick.peek_accessEffect_of_untouched b haccess).trans (State.peek_tick htick)

theorem State.peek_write {b : Word} (v : Byte) (hb : cellOf b ≠ cellOf a) : (s.write b v).peek a = s.peek a :=
  (State.peek_accessEffect_of_untouched _ b haccess).trans
    ((s.tick.peek_put a b v hb).trans (State.peek_tick htick))

end MCycles

/-! ## Register updates and programs -/

/-- A core that an address reads alike from: the core's own byte at the address is the same (R106). -/
def PeekKept (a : Word) (c c' : Cpu) : Prop :=
  (a = 0xFFFF → c'.ie = c.ie) ∧ (a = 0xFF0F → c'.iflag = c.iflag) ∧
    (a = 0xFF4D → c'.key1Prepare = c.key1Prepare ∧ c'.key1Speed = c.key1Speed)

theorem State.peek_onCpu {s : State} {a : Word} {g : Cpu → Cpu} (h : PeekKept a s.cpu (g s.cpu)) :
    (s.onCpu g).peek a = s.peek a := by
  obtain ⟨hie, hif, hkey⟩ := h
  have hrange := regionOf_range a
  unfold State.peek
  cases hreg : regionOf a <;> rw [hreg] at hrange
  case interruptEnable => exact hie (word_of_toNat hrange)
  case interruptFlag => exact congrArg ((0x7 : BitVec 3) ++ ·) (hif (word_of_toNat hrange))
  case speedSwitch =>
    obtain ⟨hprepare, hspeed⟩ := hkey (word_of_toNat hrange)
    simp only [State.key1, State.onCpu_fields, hprepare, hspeed]
  all_goals rfl

/-- A program leaves an address that it does not store to and that the platform does not touch meanwhile. -/
theorem Micro.peek_run {m : Micro} {s : State} {a : Word} (hm : m.All (PeekKept a))
    (hst : ∀ b ∈ m.stores s, cellOf b ≠ cellOf a) (hp : platformTouches s (m.cycles s) a = false) :
    (m.run s).peek a = s.peek a := by
  induction m generalizing s with
  | done => rfl
  | look k ih => exact ih s.model s.cpu (hm _ _) hst hp
  | regs g k ih => exact (ih hm.2 hst hp).trans (State.peek_onCpu (hm.1 s.cpu))
  | idle k ih =>
    obtain ⟨htick, -, hlater⟩ := platformTouches_succ hp
    exact (ih hm hst (hlater s.idle rfl)).trans (State.peek_idle htick)
  | read b k ih =>
    obtain ⟨htick, haccess, hlater⟩ := platformTouches_succ hp
    exact (ih _ (hm _) hst (hlater (s.afterRead b) (by simp))).trans (State.peek_afterRead htick haccess b)
  | write b v k ih =>
    obtain ⟨htick, haccess, hlater⟩ := platformTouches_succ hp
    exact (ih hm (fun x hx => hst x (List.mem_cons_of_mem b hx)) (hlater (s.write b v) (by simp))).trans
      (State.peek_write htick haccess v (hst b List.mem_cons_self))

/-- Each M-cycle of a program takes 4 T-cycles. -/
theorem Micro.cycles_run {m : Micro} {s : State} (hm : m.All fun c c' => c'.cycles = c.cycles) :
    (m.run s).cpu.cycles = s.cpu.cycles + 4 * m.cycles s := by
  induction m generalizing s with
  | done => rfl
  | look k ih => exact ih s.model s.cpu (hm _ _)
  | regs g k ih => exact (ih hm.2).trans (congrArg (· + _) (hm.1 s.cpu))
  | idle k ih =>
    rw [run, cycles, ih hm]
    simp
    omega
  | read b k ih =>
    rw [run, cycles, ih _ (hm _)]
    simp
    omega
  | write b v k ih =>
    rw [run, cycles, ih hm]
    simp
    omega

end Sys2Proof.Machine
end

section
/-! PROOFS. The memory form (log entry 4) and plain storage (20_memory.md R103 to R105, R116). -/

namespace Sys2Proof.Machine

open Sys2Proof.Certificates

/-! ## The canonical form -/

/-- A listed cell of a canonical memory reads as its entry, which is not what an unlisted cell reads as. -/
theorem Memory.wf_cons {k : Nat} {v : Byte} {m : Memory} (h : Memory.wf ((k, v) :: m)) :
    (∀ x ∈ m, k < x.1) ∧ v ≠ Memory.unlisted k ∧ m.wf := by
  obtain ⟨hsorted, hcells⟩ := h
  obtain ⟨hfirst, hrest⟩ := List.pairwise_cons.mp hsorted
  exact ⟨hfirst, (hcells (k, v) List.mem_cons_self).2, hrest, fun x hx => hcells x (List.mem_cons_of_mem _ hx)⟩

theorem Memory.byteAt_cons_self (k : Nat) (v : Byte) (m : Memory) : Memory.byteAt ((k, v) :: m) k = v := if_pos rfl

theorem Memory.byteAt_cons_ne {k a : Nat} (v : Byte) (m : Memory) (h : k ≠ a) :
    Memory.byteAt ((k, v) :: m) a = m.byteAt a := if_neg h

/-- A memory that reads like one that lists `k` first lists no later cell first: it would read `k` as unlisted. -/
theorem Memory.first_le {k : Nat} {v : Byte} {m m' : Memory} (h : Memory.wf ((k, v) :: m))
    (hread : Memory.byteAt ((k, v) :: m) k = m'.byteAt k) : ¬ ∀ x ∈ m', k < x.1 := by
  intro hlater
  rw [byteAt_cons_self, m'.byteAt_of_lt k hlater] at hread
  exact (wf_cons h).2.1 hread

/-- Canonical memories that read alike are equal. -/
theorem Memory.eq_of_byteAt {m m' : Memory} (h : m.wf) (h' : m'.wf) (hread : ∀ a, m.byteAt a = m'.byteAt a) :
    m = m' := by
  induction m generalizing m' with
  | nil =>
    rcases m' with _ | ⟨⟨k, v⟩, m'⟩
    · rfl
    · exact absurd (by simp) (first_le h' (hread k).symm)
  | cons x m ih =>
    obtain ⟨k, v⟩ := x
    rcases m' with _ | ⟨⟨k', v'⟩, m'⟩
    · exact absurd (by simp) (first_le h (hread k))
    obtain ⟨hk, -, hm⟩ := wf_cons h
    obtain ⟨hk', -, hm'⟩ := wf_cons h'
    have hle : ¬ k < k' := fun hlt => first_le h (hread k) fun x hx => by
      rcases List.mem_cons.mp hx with rfl | hx
      · exact hlt
      · exact hlt.trans (hk' x hx)
    have hge : ¬ k' < k := fun hlt => first_le h' (hread k').symm fun x hx => by
      rcases List.mem_cons.mp hx with rfl | hx
      · exact hlt
      · exact hlt.trans (hk x hx)
    obtain rfl : k = k' := by omega
    have hv : v = v' := by simpa only [byteAt_cons_self] using hread k
    have hrest : m = m' := ih hm hm' fun a => by
      by_cases ha : k = a
      · subst ha
        rw [Memory.byteAt_of_lt m k hk, Memory.byteAt_of_lt m' k hk']
      · simpa only [byteAt_cons_ne _ _ ha] using hread a
    rw [hv, hrest]

/-- A stored byte is read at its cell, and the other cells read as before. -/
theorem Memory.byteAt_store_eq {m : Memory} (hm : m.wf) (a b : Nat) (v : Byte) :
    (m.store a v).byteAt b = if b = a then v else m.byteAt b := by
  split
  · rename_i h
    rw [h]
    exact m.byteAt_store a v hm
  · rename_i h
    exact m.byteAt_store_ne v h

/-- Settles O30. All the memories named are canonical, so it is enough that they read alike. -/
theorem memoryFormIsCanonical : Obligations.MemoryFormIsCanonical := by
  unfold Obligations.MemoryFormIsCanonical
  refine ⟨fun m m' h h' hread => Memory.eq_of_byteAt h h' hread, fun m a b v w hm ha hb => ⟨?_, fun hab => ?_, ?_⟩⟩
  · have hav := m.wf_store a v hm ha
    refine Memory.eq_of_byteAt (Memory.wf_store _ a w hav ha) (m.wf_store a w hm ha) fun x => ?_
    rw [Memory.byteAt_store_eq hav, Memory.byteAt_store_eq hm, Memory.byteAt_store_eq hm]
    split <;> rfl
  · have hav := m.wf_store a v hm ha
    have hbw := m.wf_store b w hm hb
    refine Memory.eq_of_byteAt (Memory.wf_store _ b w hav hb) (Memory.wf_store _ a v hbw ha) fun x => ?_
    rw [Memory.byteAt_store_eq hav, Memory.byteAt_store_eq hm, Memory.byteAt_store_eq hbw, Memory.byteAt_store_eq hm]
    by_cases hxa : x = a
    · subst hxa
      rw [if_neg hab, if_pos rfl, if_pos rfl]
    · rw [if_neg hxa, if_neg hxa]
  · refine Memory.eq_of_byteAt (m.wf_store a _ hm ha) hm fun x => ?_
    rw [Memory.byteAt_store_eq hm]
    split
    · rename_i h
      rw [h]
    · rfl

/-! ## Plain storage -/

/-- The regions that store what is written (R116), external RAM where its latch is on (R103). -/
def State.storesAt (s : State) (a : Word) : Prop :=
  regionOf a ∈ ([.videoRam, .workRam, .echoRam, .oam, .highRam] : List Region) ∨
    (regionOf a = .externalRam ∧ s.platform.ramEnabled = true)

theorem State.put_of_storesAt {s : State} {a : Word} (v : Byte) (h : s.storesAt a) : s.put a v = s.storeCell a v := by
  unfold State.put
  rcases h with h | ⟨h, hram⟩
  · simp only [List.mem_cons, List.not_mem_nil, or_false] at h
    obtain h | h | h | h | h := h <;> rw [h]
  · rw [h]
    exact if_pos hram

/-- The cells of external RAM are reached from that region alone. -/
theorem regionOf_externalRam_iff (a : Word) : regionOf a = .externalRam ↔ 0xA000 ≤ cellOf a ∧ cellOf a < 0xC000 := by
  have hrange := regionOf_range a
  unfold cellOf
  cases hreg : regionOf a <;> rw [hreg] at hrange <;> simp only [Region.range] at hrange <;> simp <;> omega

/-- What a read finds at an address that the bus serves from its bytes (R103). -/
theorem State.peek_of_not_owned {s : State} {a : Word} (howned : (regionOf a).coreOwned = false)
    (hram : regionOf a = .externalRam → s.platform.ramEnabled = true) :
    s.peek a = s.platform.mem.byteAt (cellOf a) := by
  unfold State.peek
  cases hreg : regionOf a <;> rw [hreg] at howned
  case externalRam => exact if_pos (hram hreg)
  case interruptFlag | speedSwitch | interruptEnable => exact absurd howned (by decide)

theorem State.coreOwned_of_storesAt {s : State} {a : Word} (h : s.storesAt a) : (regionOf a).coreOwned = false := by
  rcases h with h | ⟨h, -⟩
  · simp only [List.mem_cons, List.not_mem_nil, or_false] at h
    obtain h | h | h | h | h := h <;> rw [h] <;> rfl
  · rw [h]
    rfl

/-- A stored byte is read from every address that reaches its cell (R103, R116). Such an address is not the core's
own, and it is in external RAM only where the stored one is. -/
theorem State.peek_storeCell {s : State} {a x : Word} (v : Byte) (hm : s.platform.mem.wf) (h : s.storesAt a)
    (hx : cellOf x = cellOf a) : (s.storeCell a v).peek x = v := by
  have howned := State.coreOwned_of_storesAt h
  have hxowned : (regionOf x).coreOwned = false := by
    refine eq_false_of_ne_true fun hown => ?_
    rw [(cellOf_owned hown).mp hx.symm, hown] at howned
    exact absurd howned (by decide)
  have hxram : regionOf x = .externalRam → s.platform.ramEnabled = true := by
    intro hext
    rw [regionOf_externalRam_iff, hx, ← regionOf_externalRam_iff] at hext
    rcases h with h | ⟨-, hram⟩
    · rw [hext] at h
      exact absurd h (by decide)
    · exact hram
  rw [State.peek_of_not_owned (s := s.storeCell a v) hxowned hxram, hx]
  exact Memory.byteAt_store _ _ v hm

/-- ROM space, the unusable region, the register file and disabled external RAM store nothing (R104, R105). -/
theorem State.put_of_readOnly {s : State} {a : Word} (v : Byte)
    (h : regionOf a ∈ ([.romBank0, .romBankN, .unusable, .registerFile] : List Region) ∨
      (regionOf a = .externalRam ∧ s.platform.ramEnabled = false)) : s.put a v = s := by
  unfold State.put
  rcases h with h | ⟨h, hram⟩
  · simp only [List.mem_cons, List.not_mem_nil, or_false] at h
    obtain h | h | h | h := h <;> rw [h]
  · rw [h, hram]
    rfl

/-- Settles O29. -/
theorem plainStorageReadsBack : Obligations.PlainStorageReadsBack := by
  unfold Obligations.PlainStorageReadsBack
  refine fun s a x v hm => ⟨fun h => ?_, State.put_of_readOnly v, fun hx => s.peek_put x a v hx.symm⟩
  rw [State.put_of_storesAt v h]
  exact ⟨State.peek_storeCell v hm h rfl, State.peek_storeCell v hm h⟩

end Sys2Proof.Machine
end

section
/-! PROOFS. The bus (R11, R54 to R57, R102, R106, R114 to R116): Tick, reads, writes and the core's own bytes. First
what an access leaves of the core, in one equation each, then the statements. -/

namespace Sys2Proof.Machine

open Sys2Proof.Certificates

/-! ## What an access leaves of the core -/

/-- `Tick` (R54, R102). -/
theorem State.tick_cpu (s : State) : s.tick.cpu = { s.cpu with
    cycles := s.cpu.cycles + 4, iflag := s.cpu.iflag ||| s.cycleNow.tick.requests } := rfl

/-- The requests of an access's side effect: none where the core owns the byte (R106, R112). -/
def State.accessRequests (s : State) (a : Word) : BitVec 5 :=
  if (regionOf a).coreOwned then 0 else s.cycleNow.access.requests

theorem State.accessEffect_cpu (s : State) (a : Word) (e : Effect) : (s.accessEffect a e).cpu = { s.cpu with
    iflag := s.cpu.iflag ||| if (regionOf a).coreOwned then 0 else e.requests } := by
  unfold State.accessEffect
  split
  · have hzero : s.cpu.iflag ||| 0 = s.cpu.iflag := BitVec.or_zero
    rw [hzero]
  · rfl

/-- The three addresses of the core's own bytes (R106). -/
theorem coreOwned_iff (a : Word) : (regionOf a).coreOwned = true ↔ a = 0xFF0F ∨ a = 0xFF4D ∨ a = 0xFFFF := by
  rw [(regionOf_echo_owned a).2]
  simp [BitVec.toNat_eq]

theorem State.put_cpu_of_not_owned {s : State} {a : Word} (v : Byte) (h : (regionOf a).coreOwned = false) :
    (s.put a v).cpu = s.cpu := by
  unfold State.put
  cases hreg : regionOf a <;> rw [hreg] at h
  case interruptFlag | speedSwitch | interruptEnable => exact absurd h (by decide)
  case externalRam => dsimp only; split <;> rfl
  all_goals rfl

/-- The core's own bytes take what is written at their addresses by their write rules (R55 to R57). -/
theorem State.put_cpu (s : State) (a : Word) (v : Byte) : (s.put a v).cpu = { s.cpu with
    ie := if a = 0xFFFF then v else s.cpu.ie
    iflag := if a = 0xFF0F then v.setWidth 5 else s.cpu.iflag
    key1Prepare := if a = 0xFF4D ∧ s.model = .cgb then v.getLsbD 0 else s.cpu.key1Prepare } := by
  by_cases howned : (regionOf a).coreOwned = true
  · obtain ⟨md, c, p⟩ := s
    obtain rfl | rfl | rfl := (coreOwned_iff a).mp howned
    · rfl
    · cases md <;> rfl
    · rfl
  · rw [State.put_cpu_of_not_owned v (eq_false_of_ne_true howned)]
    rw [coreOwned_iff, not_or, not_or] at howned
    obtain ⟨hif, hkey1, hie⟩ := howned
    simp only [hif, hkey1, hie, if_false, false_and]

/-- A write (R11, R114). -/
theorem State.write_cpu (s : State) (a : Word) (v : Byte) : (s.write a v).cpu = { s.cpu with
    cycles := s.cpu.cycles + 4
    ie := if a = 0xFFFF then v else s.cpu.ie
    iflag := (if a = 0xFF0F then v.setWidth 5 else s.cpu.iflag ||| s.cycleNow.tick.requests) ||| s.accessRequests a
    key1Prepare := if a = 0xFF4D ∧ s.model = .cgb then v.getLsbD 0 else s.cpu.key1Prepare } := by
  have hcpu : (s.write a v).cpu = ((s.tick.put a v).accessEffect a s.cycleNow.access).cpu := rfl
  rw [hcpu, State.accessEffect_cpu, State.put_cpu]
  rfl

/-- A read (R11). -/
theorem State.afterRead_cpu (s : State) (a : Word) : (s.afterRead a).cpu = { s.tick.cpu with
    iflag := s.tick.cpu.iflag ||| s.accessRequests a } :=
  State.accessEffect_cpu ..

/-- No block raises Serial (R541). -/
theorem State.accessRequests_serial (s : State) (a : Word) : (s.accessRequests a).getLsbD 3 = false := by
  unfold State.accessRequests
  split
  · rfl
  · exact Effect.requests_serial _

theorem State.tick_serial (s : State) : s.tick.cpu.iflag.getLsbD 3 = s.cpu.iflag.getLsbD 3 := by
  rw [State.tick_cpu, BitVec.getLsbD_or, Effect.requests_serial, Bool.or_false]

/-! ## Tick and reads -/

/-- Settles O25. -/
theorem tickChangesNoCoreRegister : Obligations.TickChangesNoCoreRegister := by
  unfold Obligations.TickChangesNoCoreRegister
  refine ⟨⟨rfl, rfl, rfl, rfl⟩, Effect.requests_bit, fun s => ⟨s.tick_serial, fun a ha => ?_, s.tick_cpu, rfl, rfl,
    rfl, rfl⟩⟩
  obtain ⟨htick, -, -⟩ := platformTouches_succ ha
  exact State.peek_tick htick

/-- Settles O26. -/
theorem readAnswersCoreByteOrBus : Obligations.ReadAnswersCoreByteOrBus := by
  unfold Obligations.ReadAnswersCoreByteOrBus
  intro s a
  refine ⟨fun h => if_pos h, fun h hbus => ?_, fun v h hbus => ?_, ?_, ?_, fun x hx => ?_, by simp⟩
  · rw [State.read, h, hbus]
    rfl
  · rw [State.read, h, hbus]
    rfl
  · rw [State.afterRead_cpu]
  · rw [State.afterRead_cpu, BitVec.getLsbD_or, State.accessRequests_serial, Bool.or_false, State.tick_serial]
  · obtain ⟨htick, haccess, -⟩ := platformTouches_succ hx
    exact State.peek_afterRead htick haccess a

/-! ## The core's own bytes -/

theorem setWidth_five (v : Byte) : v.setWidth 5 = v.extractLsb' 0 5 := BitVec.setWidth_eq_extractLsb' (by decide)

/-- Settles O28. -/
theorem coreOwnedBytesReadAndWrite : Obligations.CoreOwnedBytesReadAndWrite := by
  unfold Obligations.CoreOwnedBytesReadAndWrite
  intro s v
  have hif : ∀ f : BitVec 5, (0x7 : BitVec 3) ++ f = 0xE0 ||| f.setWidth 8 := by decide
  refine ⟨rfl, hif _, fun h => ?_, fun h => ?_, rfl, ?_, fun h => ?_, fun h => ?_⟩
  · have hkey1 : s.peek 0xFF4D = s.key1 := rfl
    rw [hkey1, State.key1, h]
    cases s.cpu.key1Speed <;> cases s.cpu.key1Prepare <;> rfl
  · have hkey1 : s.peek 0xFF4D = s.key1 := rfl
    rw [hkey1, State.key1, h]
    rfl
  · rw [← setWidth_five]
    rfl
  · obtain ⟨md, c, p⟩ := s
    subst h
    rfl
  · obtain ⟨md, c, p⟩ := s
    subst h
    rfl

/-! ## Writes -/

/-- A Tick that does not touch an address of plain storage leaves it one: it does not move the latch (R103). -/
theorem State.storesAt_tick {s : State} {a : Word} (htick : effectTouches s.cycleNow.tick a = false)
    (h : s.storesAt a) : s.tick.storesAt a := by
  refine h.imp_right fun ⟨hext, hram⟩ => ⟨hext, ?_⟩
  simp only [effectTouches, hext, Bool.or_eq_false_iff, beq_self_eq_true, Bool.and_true, Option.isSome_eq_false_iff,
    Option.isNone_iff_eq_none] at htick
  have hlatch : s.tick.platform.ramEnabled = s.cycleNow.tick.ramEnable.getD s.platform.ramEnabled := rfl
  rw [hlatch, htick.1.2]
  exact hram

/-- Settles O27. -/
theorem writeChangesOnlyItsTarget : Obligations.WriteChangesOnlyItsTarget := by
  unfold Obligations.WriteChangesOnlyItsTarget
  intro s a v
  have hcpu := s.write_cpu a v
  have hpeek : platformTouches s 1 a = false → (s.write a v).peek a = (s.tick.put a v).peek a := fun h =>
    State.peek_accessEffect_of_untouched _ a (platformTouches_succ h).2.1
  refine ⟨by rw [hcpu], fun ha => ?_, fun ha => ?_, fun ha => ?_, fun ha => ?_, by simp, fun ha => ?_, hpeek,
    fun ha => ?_, fun ha => ?_, fun ha => ?_, fun hm ha hstore => ?_, fun x hx ha => ?_⟩
  · rw [hcpu, if_neg ha]
  · rw [hcpu]
    exact if_neg fun h => ha h.1
  · rw [hcpu, if_neg ha]
    rfl
  · rw [hcpu, if_neg ha, BitVec.getLsbD_or, State.accessRequests_serial, Bool.or_false]
    exact s.tick_serial
  · have heffect : (s.write a v).cpu = ((s.tick.put a v).accessEffect a s.cycleNow.access).cpu := rfl
    rw [heffect, State.accessEffect, if_pos ha]
  · rw [hcpu, if_pos ha]
  · have howned : (regionOf a).coreOwned = true := (coreOwned_iff a).mpr (.inl ha)
    rw [hcpu, if_pos ha, State.accessRequests, if_pos howned, setWidth_five]
    exact BitVec.or_zero
  · rw [hcpu]
    simp only [ha, true_and]
  · have htick := State.storesAt_tick (platformTouches_succ ha).1 hstore
    rw [hpeek ha, State.put_of_storesAt v htick]
    exact State.peek_storeCell v (s.tick_wf hm) htick rfl
  · obtain ⟨htick, haccess, -⟩ := platformTouches_succ ha
    exact State.peek_write htick haccess v hx.symm

end Sys2Proof.Machine
end

section
/-! PROOFS. The memory frame of every instruction (log entry 18), the dispatch of an interrupt (R526 to R530), and the
opcode fetch (R51, R585). -/

namespace Sys2Proof.Machine

open Sys2Proof.Certificates

/-! ## The memory frame -/

/-- What an instruction writes of the core leaves an address that it does not store to: of the core's own bytes only
STOP writes one, KEY1, and the table lists it (log entry 18). -/
theorem MayWrite.peekKept {i : Instr} {s : State} {a : Word} (hst : ∀ b ∈ storeAddrs i s, cellOf b ≠ cellOf a)
    {c c' : Cpu} (h : MayWrite i c c') : PeekKept a c c' := by
  refine ⟨fun _ => h.ie, fun _ => h.iflag, fun ha => ?_⟩
  have hi : i ≠ .stop := by
    rintro rfl
    exact hst 0xFF4D List.mem_cons_self (congrArg cellOf ha.symm)
  exact ⟨h.key1Prepare hi, (h.control.stop hi).2⟩

/-- Settles O23. -/
theorem instructionsStoreOnlyWhereTheySay : Obligations.InstructionsStoreOnlyWhereTheySay := by
  unfold Obligations.InstructionsStoreOnlyWhereTheySay
  intro i s t h a hst hp
  obtain ⟨m, he, hwrites, hstores⟩ := exec_isMicro i
  obtain rfl : m.run s = t := Host.Outcome.next.inj ((he s).symm.trans h)
  have hcycles : cyclesBetween s (m.run s) = m.cycles s := by
    rw [cyclesBetween, Micro.cycles_run (hwrites.mono fun h => h.cycles)]
    omega
  rw [hcycles] at hp
  exact Micro.peek_run (hwrites.mono fun h => h.peekKept hst) (fun b hb => hst b (hstores s hb)) hp
/-! ## The dispatch of an interrupt -/

/-- A dispatch is the acknowledge and then five M-cycles that leave what the platform does not touch, but for the two
bytes pushed. -/
theorem State.peek_takeInterrupt {s : State} {a : Word} (h1 : cellOf a ≠ cellOf (s.cpu.sp - 1))
    (h2 : cellOf a ≠ cellOf (s.cpu.sp - 2)) (hp : platformTouches s 5 a = false) :
    s.takeInterrupt.peek a = (s.onCpu (·.acknowledge (lowestPending s.cpu.pending))).peek a := by
  refine Micro.peek_run (m := Micro.enterHandler s.cpu.returnAddress (vectorOf (lowestPending s.cpu.pending)))
    ((Micro.all_enterHandler _ _).mono fun h => ?_) (fun b hb => ?_) hp
  · rw [h.1]
    exact ⟨fun _ => rfl, fun _ => rfl, fun _ => ⟨rfl, rfl⟩⟩
  · have hstores : b ∈ [s.cpu.sp - 1, s.cpu.sp - 2] := by
      rw [Micro.enterHandler, Micro.stores, Micro.stores_idle_push16] at hb
      simpa [pushAddrs, Micro.stores] using hb
    rcases List.mem_pair.mp hstores with rfl | rfl
    · exact h1.symm
    · exact h2.symm

/-- IF reads as three ones and its five bits. -/
theorem State.iflag_eq_of_peek {s t : State} (h : t.peek 0xFF0F = s.peek 0xFF0F) : t.cpu.iflag = s.cpu.iflag := by
  change (0x7 : BitVec 3) ++ t.cpu.iflag = 0x7 ++ s.cpu.iflag at h
  have hbits : ∀ f : BitVec 5, ((0x7 : BitVec 3) ++ f).setWidth 5 = f := by decide
  rw [← hbits t.cpu.iflag, h, hbits]

/-- The IF bit of an interrupt (R521). -/
theorem interruptBit_getLsbD (k j : Fin 5) : ((1 : BitVec 5) <<< k.val).getLsbD j.val = decide (j.val = k.val) := by
  decide +revert

/-- The acknowledge clears the IF bit of the interrupt taken (R526). -/
theorem Cpu.iflag_acknowledge (c : Cpu) (k : Fin 5) {j : Nat} (hj : j < 5) :
    (c.acknowledge k).iflag.getLsbD j = (c.iflag.getLsbD j && decide (j ≠ k.val)) := by
  rw [Cpu.acknowledge, BitVec.getLsbD_and, BitVec.getLsbD_not, interruptBit_getLsbD k ⟨j, hj⟩]
  simp [hj]

/-- Settles O12. -/
theorem dispatchSavesPcAndEntersVector : Obligations.DispatchSavesPcAndEntersVector := by
  unfold Obligations.DispatchSavesPcAndEntersVector
  intro s _ k ret t
  refine ⟨?_, ?_, fun a h1 h2 ha hp => ?_, fun h1 h2 hp j hj => ?_⟩
  · exact Cpu.eq_of_fields (by simp [t, State.takeInterrupt, vectorOf, k]; rfl)
  · simp [t, State.takeInterrupt, ret]
    exact ⟨rfl, rfl⟩
  · rw [State.peek_takeInterrupt h1 h2 hp]
    exact State.peek_onCpu ⟨fun _ => rfl, fun h => absurd h ha, fun _ => ⟨rfl, rfl⟩⟩
  · have hiflag : t.cpu.iflag = (s.cpu.acknowledge k).iflag :=
      State.iflag_eq_of_peek (State.peek_takeInterrupt
        (fun h => h1 ((cellOf_owned rfl).mp h.symm)) (fun h => h2 ((cellOf_owned rfl).mp h.symm)) hp)
    exact hiflag ▸ s.cpu.iflag_acknowledge k hj

/-! ## The opcode fetch -/

/-- With a quiet platform nothing is touched. -/
theorem effectTouches_quiet {s : State} (h : s.platform.script = []) (a : Word) :
    effectTouches s.cycleNow.tick a = false ∧ effectTouches s.cycleNow.access a = false := by
  rw [State.cycleNow, h]
  exact ⟨rfl, rfl⟩

section Quiet

variable {s : State} (h : s.platform.script = [])
include h

/-- With a quiet platform a read answers the byte that stands at the address. -/
theorem State.read_quiet (a : Word) : s.read a = s.peek a := by
  have hread : s.cycleNow.readAs = none := by rw [State.cycleNow, h]; rfl
  rw [State.read, hread, Option.getD_none, ite_self, State.peek_tick (effectTouches_quiet h a).1]

/-- With a quiet platform a read changes no byte. -/
theorem State.peek_afterRead_quiet (a b : Word) : (s.afterRead b).peek a = s.peek a :=
  State.peek_afterRead (effectTouches_quiet h a).1 (effectTouches_quiet h a).2 b

theorem State.fetch8_quiet : s.fetch8.1 = s.peek s.cpu.pc ∧ (∀ a, s.fetch8.2.peek a = s.peek a) ∧
    s.fetch8.2.cpu.pc = s.cpu.pc + 1 ∧ s.fetch8.2.platform.script = [] :=
  ⟨State.read_quiet h _, fun a => State.peek_afterRead_quiet h a _, rfl, by simp [h]⟩

theorem State.fetchOpcode_quiet : s.fetchOpcode.1 = s.peek s.cpu.pc ∧ (∀ a, s.fetchOpcode.2.peek a = s.peek a) ∧
    s.fetchOpcode.2.cpu.pc = (if s.cpu.haltBug then s.cpu.pc else s.cpu.pc + 1) ∧
    s.fetchOpcode.2.platform.script = [] := by
  refine ⟨State.read_quiet h _, fun a => ?_, by simp, ?_⟩
  · refine (State.peek_onCpu ?_).trans (State.peek_afterRead_quiet h a s.cpu.pc)
    split <;> exact ⟨fun _ => rfl, fun _ => rfl, fun _ => ⟨rfl, rfl⟩⟩
  · exact (State.fetch8_quiet h).2.2.2

/-- The bytes ahead of a quiet machine stand at PC and at the two addresses after the opcode fetch's PC. -/
theorem bytesAhead_quiet : bytesAhead s = [s.peek s.cpu.pc, s.peek s.fetchOpcode.2.cpu.pc,
    s.peek (s.fetchOpcode.2.cpu.pc + 1)] := by
  obtain ⟨hop, hpeek, -, hscript⟩ := State.fetchOpcode_quiet h
  obtain ⟨hone, hpeek1, hpc1, hscript1⟩ := State.fetch8_quiet hscript
  obtain ⟨htwo, -⟩ := State.fetch8_quiet hscript1
  rw [bytesAhead, hop, hone, htwo, hpeek1, hpc1, hpeek, hpeek]

end Quiet

/-- Settles O6 (R51, R120, R585). -/
theorem fetchReadsAtPcUnlessHaltBug : Obligations.FetchReadsAtPcUnlessHaltBug := by
  unfold Obligations.FetchReadsAtPcUnlessHaltBug
  refine ⟨fun s => ⟨rfl, fun hbug => ?_, fun hbug => ?_⟩, fun s h => ⟨fun hbug => ?_, fun hbug => ?_⟩⟩
  · simp [State.fetchOpcode, State.onCpu, State.setPc, hbug]
  · simp [State.fetchOpcode, State.onCpu, hbug]
  · have hpc : s.fetchOpcode.2.cpu.pc = s.cpu.pc + 1 := by simp [hbug]
    rw [bytesAhead_quiet h, hpc, BitVec.add_assoc]
    rfl
  · have hpc : s.fetchOpcode.2.cpu.pc = s.cpu.pc := by simp [hbug]
    rw [bytesAhead_quiet h, hpc]

end Sys2Proof.Machine
end

section
/-! PROOFS. The step boundary and the instruction it runs (60_exceptions.md sections 2, 3 and 5, R585). -/

namespace Sys2Proof.Machine

open Sys2Proof.Certificates

/-! ## The instruction that runs -/

/-- Only the opcode 0x10 is read as STOP. -/
theorem primaryEntry_of_decode_stop {op : Byte} {bytes rest : List Byte} (h : decode (op :: bytes) = .ok .stop rest) :
    primaryEntry op = .skip .stop := by
  obtain rfl : 0x10 = op := Option.some.inj (encode_head_of_decode h)
  rfl

/-- The fetches of an instruction are those that `decode` says: every byte that it reads, but not STOP's second
(R165). -/
theorem State.fetchInstr_of_decode {s : State} {i : Instr} {rest : List Byte}
    (h : decode (bytesAhead s) = .ok i rest) :
    s.fetchInstr = (i, afterFetches s (fetchedCount i (3 - rest.length))) := by
  have hop := primaryEntry_encodedAt s.fetchOpcode.1
  have hstop : ∀ {e}, primaryEntry s.fetchOpcode.1 = e → e ≠ .skip .stop → i ≠ .stop := by
    rintro e he hne rfl
    exact hne (he.symm.trans (primaryEntry_of_decode_stop h))
  rw [State.fetchInstr_eq]
  obtain ⟨he, rfl⟩ | ⟨f, v, he, rfl, hb⟩ | ⟨f, lo, hi, he, rfl, hb⟩ | ⟨skipped, he, hb⟩ | ⟨op2, he, rfl, hb⟩ |
    ⟨-, -, hb, -⟩ := decode_cases h
  · rw [he, fetchedCount, List.length_cons, List.length_cons, List.length_nil, ite_self]
    rfl
  · obtain ⟨rfl, rfl⟩ := List.cons.inj hb
    rw [fetchedCount, if_neg (hstop he (by simp)), he]
    rfl
  · obtain ⟨rfl, hb'⟩ := List.cons.inj hb
    obtain ⟨rfl, rfl⟩ := List.cons.inj hb'
    rw [fetchedCount, if_neg (hstop he (by simp)), he]
    rfl
  · rw [he] at hop ⊢
    rw [fetchedCount, if_pos hop.1]
    rfl
  · obtain ⟨rfl, rfl⟩ := List.cons.inj hb
    rw [fetchedCount, if_neg (hstop he (by simp)), he]
    rfl
  · cases hb

/-- Settles O5. -/
theorem stepRunsDecodedInstruction : Obligations.StepRunsDecodedInstruction := by
  unfold Obligations.StepRunsDecodedInstruction
  rintro s i rest ⟨hlocked, hstopped, hhalted, hdispatch⟩ h
  have hboundary := s.boundary_run hlocked hstopped (fun hh => hhalted hh.1 hh.2) hdispatch
  rw [s.specStep_instr _ hboundary, State.runInstr, State.fetchInstr_of_decode h]
  rfl

/-! ## The boundary -/

/-- Settles O7. -/
theorem lockedStepIsOneIdle : Obligations.LockedStepIsOneIdle := by
  unfold Obligations.LockedStepIsOneIdle
  exact fun s h => ⟨s.specStep_finished _ (s.boundary_locked h), h, rfl, rfl⟩

/-- Settles O9. -/
theorem haltedIdlesUntilPending : Obligations.HaltedIdlesUntilPending := by
  unfold Obligations.HaltedIdlesUntilPending
  intro s hh hl hs
  refine ⟨fun hp => ?_, fun hp hime => ?_, fun hp hime => ?_⟩
  · exact s.specStep_finished _ (s.boundary_halted hl hs ⟨hh, hp⟩)
  · exact s.specStep_finished _ (s.boundary_dispatch hl hs ⟨hime, hp⟩)
  · exact s.specStep_instr _ (s.boundary_run hl hs (fun h => hp h.2) (by simp [hime]))

/-- Settles O10. -/
theorem dispatchExactlyWhenEnabledAndPending : Obligations.DispatchExactlyWhenEnabledAndPending := by
  unfold Obligations.DispatchExactlyWhenEnabledAndPending
  intro s hl hs hh
  have hwake := s.wake_of_not_halted hh
  refine ⟨fun h => ?_, fun h => ?_⟩
  · exact hwake ▸ s.specStep_finished _ (s.boundary_dispatch hl hs h)
  · exact hwake ▸ s.specStep_instr _ (s.boundary_run hl hs (by simp [hh]) h)

/-- Settles O8. The Step after the edge is that of a running core. -/
theorem stoppedUntilInputEdge : Obligations.StoppedUntilInputEdge := by
  unfold Obligations.StoppedUntilInputEdge
  refine ⟨fun s joypad => ?_, fun s k => ⟨rfl, fun j hj => ?_⟩, fun s hs hl => ⟨?_, fun joypad => ?_⟩⟩
  · cases joypad <;> rfl
  · rw [State.requestInterrupt, State.onCpu, BitVec.getLsbD_or, interruptBit_getLsbD k ⟨j, hj⟩]
  · exact s.specStep_finished s (s.boundary_stopped hl hs)
  · obtain ⟨hstopped, hpc, hlocked, hhalted⟩ :
        (s.hostAct (.inputEdge joypad)).cpu.stopped = false ∧ (s.hostAct (.inputEdge joypad)).cpu.pc = s.cpu.pc ∧
        (s.hostAct (.inputEdge joypad)).cpu.locked = s.cpu.locked ∧
        (s.hostAct (.inputEdge joypad)).cpu.halted = s.cpu.halted := by
      cases joypad <;> exact ⟨rfl, rfl, rfl, rfl⟩
    exact ⟨hstopped, hpc, fun hh =>
      dispatchExactlyWhenEnabledAndPending _ (hlocked.trans hl) hstopped (hhalted.trans hh)⟩

/-! ## The pending set -/

/-- The lowest bit set, and the vectors (R521, R525). -/
theorem lowestPending_isLowest : ∀ p : BitVec 5, p ≠ 0 → p.getLsbD (lowestPending p).val = true ∧
    ∀ j < (lowestPending p).val, p.getLsbD j = false := by
  decide

/-- Settles O11. -/
theorem lowestPendingIsTaken : Obligations.LowestPendingIsTaken := by
  unfold Obligations.LowestPendingIsTaken
  refine ⟨fun c k hk => ?_, lowestPending_isLowest, by decide⟩
  rw [Cpu.pending, BitVec.getLsbD_and]
  simp [hk]

end Sys2Proof.Machine
end

section
/-! PROOFS. Reset and the host's turn (00_scope.md section 6, 10_state.md section 4, 70_reset_and_hazards.md
section 1). -/

namespace Sys2Proof.Machine

open Sys2Proof.Certificates

/-- A boot ROM leaves the draw (R63), on either model. -/
theorem Cpu.afterReset_bootRom (md : Model) (draw : BootRegs) :
    Cpu.afterReset md (.bootRom draw) = Cpu.ofDraw draw 0x0000 0x00 := by
  cases md <;> rfl

/-- Settles O14. -/
theorem resetValues : Obligations.ResetValues := by
  unfold Obligations.ResetValues
  refine ⟨fun md b => ?_, by decide, by decide, fun md draw => ?_⟩
  · cases md <;> cases b <;> exact ⟨rfl, rfl, rfl, rfl, rfl, rfl, rfl, rfl, rfl, rfl⟩
  · obtain ⟨hlow, hflags⟩ := flags_append_zero draw.flags
    rw [Cpu.afterReset_bootRom]
    exact ⟨rfl, rfl, hlow, hflags, rfl, rfl, rfl, rfl, rfl, rfl, rfl, rfl⟩

/-- Settles O15. -/
theorem hostTurnThenStep : Obligations.HostTurnThenStep := by
  unfold Obligations.HostTurnThenStep
  refine ⟨fun s => ⟨rfl, fun h => ?_⟩, fun s => ⟨fun _ _ _ _ => ⟨rfl, rfl, rfl⟩, fun _ => rfl, fun _ => rfl⟩⟩
  rw [State.hostTurn, h]

/-- Settles O16. -/
theorem resetStateIsLegal : Obligations.ResetStateIsLegal := by
  unfold Obligations.ResetStateIsLegal
  exact ⟨⟨Cpu.afterReset_legal .dmg .skipped, reset_mem_wf, by simp [State.reset, State.powerOn, Platform.powerOn]⟩,
    fun md b p hmem hhost => ⟨Cpu.afterReset_legal md b, hmem, hhost⟩⟩

end Sys2Proof.Machine
end

section
/-! PROOFS. The instructions on SP, the interrupt enable, and the miscellaneous and system instructions
(42_load16_stack.md, 44_alu16.md, 47_control.md, 48_misc_system.md). -/

namespace Sys2Proof.Machine

open Sys2Proof.Certificates

/-! ## SP and its offset -/

/-- Settles O36 (R251). -/
theorem ldStoresSpLowThenHigh : Obligations.LdStoresSpLowThenHigh := by
  unfold Obligations.LdStoresSpLowThenHigh
  exact ⟨busCyclesKeepRegisters, spends_of (by decide) rfl rfl,
    fun lo hi s rest => ⟨decode_imm16 rfl lo hi rest, exec_ldAtAddrSp (hi ++ lo) s⟩⟩

/-- The flags of an offset from SP are those of the low nibbles and the low bytes, unsigned (D28). -/
theorem flagsAre_spOffset (c : Cpu) (sp : Word) (e : Byte) :
    FlagsAre (c.setFlags false false (spOffsetHalf sp e) (spOffsetCarry sp e)) False False
      (sp.toNat % 16 + e.toNat % 16 > 15) (sp.toNat % 256 + e.toNat > 255) :=
  flagsAre_setFlags c Bool.false_eq_true.to_iff Bool.false_eq_true.to_iff decide_eq_true_iff decide_eq_true_iff

/-- Settles O37 (R253, R353). -/
theorem spOffsetSumsAndFlags : Obligations.SpOffsetSumsAndFlags := by
  unfold Obligations.SpOffsetSumsAndFlags
  refine ⟨busCyclesKeepRegisters, spends_of (by decide) rfl rfl, spends_of (by decide) rfl rfl, fun e s rest =>
    ⟨⟨decode_imm8 rfl e rest, _, exec_ldHlSpImm e s, flagsAre_spOffset .., ?_⟩,
      decode_imm8 rfl e rest, _, exec_addSpImm e s, flagsAre_spOffset .., ?_⟩⟩ <;>
    rw [← add_sext16_eq_offsetBy] <;> rfl

/-! ## The interrupt enable -/

/-- Settles O54 (R485, R486, R450). -/
theorem diEiRetiWriteImeAndLatch : Obligations.DiEiRetiWriteImeAndLatch := by
  unfold Obligations.DiEiRetiWriteImeAndLatch
  refine ⟨busCyclesKeepRegisters, spends_of (by decide) rfl rfl, spends_of (by decide) rfl rfl,
    spends_of (by decide) rfl rfl, fun s rest => ⟨⟨decode_one rfl rest, exec_di s⟩, ⟨decode_one rfl rest, exec_ei s⟩,
      decode_one rfl rest, ?_⟩⟩
  rw [exec_reti, execReti, State.returnFromInterrupt, pop16_eq_popped]
  rfl

/-! ## DAA -/

/-- DAA's adjustments of A, in exact arithmetic (D24). -/
theorem daa8_eq_daaResult (a : Byte) (n h c : Bool) :
    ((daa8 a n h c).value.toNat, (daa8 a n h c).c) = daaResult a.toNat n h c := by
  cases n
  · simp [daa8, daaResult, apply_ite BitVec.toNat, BitVec.toNat_add]
  · simp [daa8, daaResult, apply_ite BitVec.toNat, BitVec.toNat_sub, Nat.add_comm 160, Nat.add_comm 250]

/-- DAA takes Z from the new A, keeps N and clears H. -/
theorem daa8_flags (a : Byte) (n h c : Bool) : (daa8 a n h c).z = ((daa8 a n h c).value == 0) ∧
    (daa8 a n h c).n = n ∧ (daa8 a n h c).h = false := by
  cases n <;> exact ⟨rfl, rfl, rfl⟩

/-- Settles O56 (R481). -/
theorem daaAdjustsA : Obligations.DaaAdjustsA := by
  unfold Obligations.DaaAdjustsA
  refine ⟨spends_of (by decide) rfl rfl, fun s rest => ⟨decode_one rfl rest, _, exec_daa s, onlyAF_putR8 .., ?_⟩⟩
  obtain ⟨hz, hn, hh⟩ := daa8_flags s.cpu.a s.cpu.flagN s.cpu.flagH s.cpu.flagC
  rw [← daa8_eq_daaResult]
  refine ⟨rfl, flagsAre_putFlags _ ?_ (by rw [hn]) (by rw [hh]; exact Bool.false_eq_true.to_iff) Iff.rfl⟩
  rw [hz, beq_iff_eq, ← BitVec.toNat_inj]
  rfl

/-! ## HALT and STOP -/

/-- Settles O57 (R487). -/
theorem haltHaltsOrSetsHaltBug : Obligations.HaltHaltsOrSetsHaltBug := by
  unfold Obligations.HaltHaltsOrSetsHaltBug
  refine ⟨spends_of (by decide) rfl rfl, fun s rest => ⟨decode_one rfl rest, fun h => ?_, fun h => ?_⟩⟩
  · rw [exec_halt, execHalt, State.onCpu, if_pos h]
  · rw [exec_halt, execHalt, State.onCpu, if_neg h]

/-- Settles O58 (R488), by the model and the prepare bit. -/
theorem stopStopsOrSwitchesSpeed : Obligations.StopStopsOrSwitchesSpeed := by
  unfold Obligations.StopStopsOrSwitchesSpeed
  refine ⟨spends_of (by decide) rfl rfl, fun skipped s rest => ⟨rfl, fun h => ?_, fun h => ?_⟩⟩
  · rw [exec_stop, execStop]
    split
    · rfl
    · next hother => exact absurd h (fun h => hother h.1 h.2)
  · rw [exec_stop, execStop]
    split
    · next hmodel hprepare => exact absurd ⟨hmodel, hprepare⟩ h
    · rfl

/-! ## The byte 0xCB and the unassigned opcodes -/

/-- Settles O59 (R489). -/
theorem prefixRunsSelectedCbInstruction : Obligations.PrefixRunsSelectedCbInstruction := by
  unfold Obligations.PrefixRunsSelectedCbInstruction
  exact ⟨spendsCb_all, fun s => ⟨rfl, (exec_prefixCb s).trans (cbMeaning_eq s.fetch8.1 s.fetch8.2),
    everyStepAnswersANextState.1 .prefixCb s⟩⟩

theorem spends_unassigned (k : Fin 11) : Spends (unassignedOpcodes.getD k.val 0) [.f] := by
  fin_cases k <;> exact spends_of (by decide) rfl rfl

/-- Settles O60 (R490). -/
theorem unassignedOpcodesLock : Obligations.UnassignedOpcodesLock := by
  unfold Obligations.UnassignedOpcodesLock
  refine ⟨fun op hmem => ?_, fun k s rest => ⟨decode_unassigned k rest, exec_unassigned k s⟩⟩
  obtain ⟨n, hn, rfl⟩ := List.getElem_of_mem hmem
  rw [← List.getD_eq_getElem _ 0 hn]
  exact spends_unassigned ⟨n, hn⟩

end Sys2Proof.Machine
end
